-- ==== Sys2Proof/Word.lean ====
section
/-! DEFINITION. The words and the small numbered sets of the JB8064: bytes, registers, sequence numbers, tags,
ports, banks, slots, holds, aperture indices and unit addresses. -/

namespace Sys2Proof

/-- A byte on a link, on the SPI port or in memory. -/
abbrev Byte := BitVec 8

/-- A 32-bit register word (R176), a CRC (R28) or the tick count (R142). -/
abbrev Word := BitVec 32

/-- A link sequence number, 0 to 127, which wraps (R2, R26). -/
abbrev Seq := BitVec 7

/-- A request tag, 0 to 31 (R51). -/
abbrev Tag := Fin 32

/-- A host port, P0 to P3. -/
abbrev PortId := Fin 4

/-- A bank engine, B0 to B7 (R103). -/
abbrev BankId := Fin 8

/-- A binding slot, S0 to S7 (R87). -/
abbrev SlotId := Fin 8

/-- A hold id, 0 to 15 (R127). -/
abbrev HoldId := Fin 16

/-- An aperture index, 0 to 1023 (R70). -/
abbrev ApIndex := Fin 1024

/-- A unit address, 0 to 3FFFFFH. -/
abbrev UnitAddr := BitVec 22

/-- A tier, 0 the most privileged to 3 (R73). -/
abbrev Tier := Fin 4

/-- An aperture generation, 0 to 15, which wraps (R2, R70). -/
abbrev Generation := BitVec 4

end Sys2Proof
end

