-- ==== Sys2Proof/Syntax.lean ====
section
/-! DEFINITION. The commands of the JB8064: one constructor per row of spec/opcode_table.json, with the row's operands.
A command is one event of the total order of R1: a stimulus from outside (a pin, a parcel, an SPI transaction, a tick, a
disturbance), or a step that the part itself takes (a taking, an attempt, a bank decision, a completion, a send, a
management execution). -/

namespace Sys2Proof

/-- The integrity state of a unit (Table 6-3). -/
inductive Health
  | clean
  | correctable
  | uncorrectable
deriving DecidableEq, Repr

/-- The state of an aperture entry (R70). -/
inductive ApState
  | free
  | live
  | retiring
deriving DecidableEq, Repr

/-- The stored bit of an aperture entry that a disturbance strikes (R70, R84). The spec gives the state field no
encoding, so a disturbance of it names the state that the entry then reads as. -/
inductive StoredBit
  | state (reads : ApState)
  | generation (bit : Fin 4)
  | base (bit : Fin 22)
  | limit (bit : Fin 22)
  | granularity
  | rights (bit : Fin 3)
  | accessTier (bit : Fin 2)
  | portMask (bit : Fin 4)
  | parity
deriving DecidableEq, Repr

/-- The commands of the JB8064, in the order of spec/opcode_table.json. -/
inductive Instr
  /-- RESET_N goes low (R4). -/
  | resetNAssert
  /-- RESET_N goes high (R5). -/
  | resetNRelease
  /-- A tick falls due (R142, R143). -/
  | tick
  /-- The tick that ends CALIBRATING (R5). -/
  | calibrationEnd
  /-- A tick on which this bank acquires an obligation (R145). -/
  | refreshObligation (bank : BankId)
  /-- A tick on which this hold expires (R136). -/
  | holdExpiry (hold : HoldId)
  /-- A tick on which this port's ack timer reaches 16 (R45). -/
  | ackTimeout (port : PortId)
  /-- A tick on which this port's training timer reaches 100 (R35). -/
  | trainingTimeout (port : PortId)
  /-- The stored bits of a unit are disturbed (R113). -/
  | memoryDisturbance (unit : UnitAddr) (health : Health)
  /-- A stored bit of an aperture entry is disturbed (R84). -/
  | tableDisturbance (index : ApIndex) (bit : StoredBit)
  /-- A malformed frame arrives (R28). -/
  | malformedParcel (port : PortId) (frame : List Byte)
  /-- A DATA parcel arrives (R37). -/
  | receiveData (port : PortId) (seq ack : Seq) (body : List Byte)
  /-- An ACK arrives (R39). -/
  | receiveAck (port : PortId) (ack : Seq)
  /-- A NAK arrives (R40). -/
  | receiveNak (port : PortId) (ack : Seq)
  /-- A TRAIN_REQ with fresh 1 arrives (R31). -/
  | receiveTrainReq (port : PortId)
  /-- A TRAIN_REQ with fresh 1 arrives from a host that has restarted (R32). -/
  | hostReset (port : PortId)
  /-- A TRAIN_REQ with fresh 0 arrives (R33, R34). -/
  | receiveRetrainReq (port : PortId) (ack : Seq)
  /-- A TRAIN_ACK arrives (R31, R34). -/
  | receiveTrainAck (port : PortId) (fresh : Bool) (ack : Seq)
  /-- The link engine sends a TRAIN_ACK (R46). -/
  | sendTrainAck (port : PortId)
  /-- The link engine sends a TRAIN_REQ (R46). -/
  | sendTrainReq (port : PortId)
  /-- The link engine sends a NAK (R41). -/
  | sendNak (port : PortId)
  /-- The link engine resends the parcel at the retransmission point (R43). -/
  | sendRetransmit (port : PortId)
  /-- The link engine sends a new DATA parcel (R42). -/
  | sendNewData (port : PortId)
  /-- The link engine sends an ACK (R41). -/
  | sendAck (port : PortId)
  /-- The taking of a body shorter than 8 bytes (R53). -/
  | shortRequest (port : PortId)
  /-- The taking of a READ (R54). -/
  | read (port : PortId)
  /-- The taking of a WRITE (R54). -/
  | write (port : PortId)
  /-- The taking of a WRITE_MASKED (R54). -/
  | writeMasked (port : PortId)
  /-- The taking of an ATOMIC (R55). -/
  | atomic (port : PortId)
  /-- The taking of a BIND (R90). -/
  | bind (port : PortId)
  /-- The taking of an UNBIND (R91). -/
  | unbind (port : PortId)
  /-- The taking of a QUERY_SLOT (R92). -/
  | querySlot (port : PortId)
  /-- The taking of a HOLD_OPEN (R128). -/
  | holdOpen (port : PortId)
  /-- The taking of a HOLD_RELEASE (R135). -/
  | holdRelease (port : PortId)
  /-- The taking of a FENCE (R58). -/
  | fence (port : PortId)
  /-- The taking of a MGMT request (R59). -/
  | mgmt (port : PortId)
  /-- The event by which a waiting FENCE is answered (R58). -/
  | fenceAnswer (port : PortId)
  /-- A new attempt at admission (R64). -/
  | admissionReattempt (port : PortId)
  /-- A bank decision (R111). -/
  | bankDecision (bank : BankId)
  /-- The completion of a READ (R114, R119). -/
  | readService (bank : BankId)
  /-- The completion of a WRITE (R115, R119). -/
  | writeService (bank : BankId)
  /-- The completion of a WRITE_MASKED (R116, R119). -/
  | writeMaskedService (bank : BankId)
  /-- The completion of an ATOMIC (R125, R119). -/
  | atomicService (bank : BankId)
  /-- The completion of a clearing service (R122). -/
  | clearingService (bank : BankId)
  /-- The completion of a refresh (R146). -/
  | refreshComplete (bank : BankId)
  /-- The completion of a drain (R14). -/
  | drainComplete
  /-- An SPI STATUS transaction (R165). -/
  | spiStatus
  /-- An SPI RESULT transaction (R165). -/
  | spiResult
  /-- An SPI SUBMIT transaction with the bytes shifted in after the opcode (R166). -/
  | spiSubmit (block : List Byte)
  /-- An SPI transaction with an unknown opcode (R165). -/
  | spiBadOpcode (opcode : Byte)
  /-- The execution of the REG_READ at the head of the management queue (R176), and so for the commands below. -/
  | regRead
  /-- Execution of a REG_WRITE (R176). -/
  | regWrite
  /-- Execution of a REG_WRITE to either word of a PORTSTAT (R177). -/
  | portstatWrite
  /-- Execution of a REG_WRITE to a BANKSTAT (R177). -/
  | bankstatWrite
  /-- Execution of a REG_WRITE to either word of LOGSTAT (R177). -/
  | logstatWrite
  /-- Execution of a REG_WRITE to LOGCLASS (R177). -/
  | logclassWrite
  /-- Execution of a REG_WRITE to ALERTMASK (R177). -/
  | alertmaskWrite
  /-- Execution of an APERTURE_CREATE (R74). -/
  | apertureCreate
  /-- Execution of an APERTURE_MODIFY (R75). -/
  | apertureModify
  /-- Execution of an APERTURE_RETIRE (R78). -/
  | apertureRetire
  /-- Execution of an APERTURE_READ (R80). -/
  | apertureRead
  /-- Execution of a PORT_CONFIG (R173). -/
  | portConfig
  /-- Execution of a PORT_RESET (R23). -/
  | portReset
  /-- Execution of a LOG_POP (R157). -/
  | logPop
  /-- Execution of a LOG_PEEK (R157). -/
  | logPeek
  /-- Execution of a LOG_CLEAR (R157). -/
  | logClear
  /-- Execution of a PROFILE_STAGE (R7). -/
  | profileStage
  /-- Execution of a PROFILE_COMMIT (R8). -/
  | profileCommit
  /-- Execution of a QUIESCE (R12). -/
  | quiesce
  /-- Execution of a RESUME (R15). -/
  | resume
  /-- Execution of a DATAPATH_RESET (R24). -/
  | datapathReset
  /-- Execution of a HOLD_BREAK (R138). -/
  | holdBreak
  /-- Execution of an INJECT_ECC (R175). -/
  | injectEcc
  /-- Execution of a HALT (R18). -/
  | halt
  /-- The taking of a request whose kind code is 0 or 12 to 15 (R53). -/
  | invalidRequestKind (port : PortId)
  /-- Execution of a block that names no command of the catalogue (R169). -/
  | unknownCommandCode
deriving DecidableEq, Repr

end Sys2Proof
end

