-- ==== Sys2Proof/Config.lean ====
section
/-! DEFINITION. The numbers that the spec fixes for the JB8064: capacities, limits and the tick counts of its timers.
The spec leaves no value of an operation open, so there is no free value here. -/

namespace Sys2Proof.Config

/-- Bodies that an ingress FIFO holds (R51). -/
def fifoDepth : Nat := 32
/-- Responses that an egress queue holds (R48). -/
def egressDepth : Nat := 32
/-- Events that an event queue holds (R48, R151). -/
def eventDepth : Nat := 8
/-- Parcels that a replay buffer holds (R26). -/
def replayDepth : Nat := 32
/-- Entries that a bank queue holds (R103). -/
def bankDepth : Nat := 8
/-- Entries of one bank that may be parked (R107). -/
def parkedLimit : Nat := 6
/-- Fault records that the log holds (R151). -/
def logDepth : Nat := 64
/-- Commands that the management queue holds (R164). -/
def mgmtDepth : Nat := 8
/-- ACTIVE holds that one port may own (R130). -/
def holdsPerPort : Nat := 4
/-- The widest span of a hold, in units (R129). -/
def maxSpan : Nat := 64
/-- The tick that ends CALIBRATING (R5). -/
def calibrationTicks : Nat := 150
/-- Ticks of the ack timer at which a replay falls due (R45). -/
def ackTimeout : Nat := 16
/-- Ticks of the training timer at which R35 applies. -/
def trainingTimeout : Nat := 100
/-- Replays of one oldest parcel before retraining takes the place of the next (R44). -/
def replayLimit : Nat := 4
/-- Retraining attempts before the link fails (R35). -/
def trainingAttempts : Nat := 3
/-- Clearing services of one bank in a clearing pass (R10). -/
def clearingServices : Nat := 128
/-- Units that one clearing service writes (R122). -/
def clearingUnits : Nat := 4096
/-- Units of one bank (R103). -/
def bankUnits : Nat := 524288
/-- Bytes of a unit. -/
def unitBytes : Nat := 16
/-- The longest body of a DATA parcel (R27). -/
def maxBody : Nat := 128
/-- The longest command block that a SUBMIT keeps (R166). -/
def maxBlock : Nat := 120

end Sys2Proof.Config
end

