-- ==== Sys2Proof/Machine/State.lean ====
section
/-! DEFINITION. The state of the JB8064 as plain data, block by block as Table 1-1 of the spec lists them, the reasons a
step can stop, and the state after RESET_N. Which rule names each field is said in its docstring. -/

namespace Sys2Proof.Machine

/-! ### Why a step can stop -/

/-- No command of the JB8064 ends in a fault: the spec gives every stimulus an outcome in every state, so this type has
no constructor. Safe: nothing stops. -/
inductive Fault
deriving DecidableEq, Repr

/-- The reasons a command is refused. -/
inductive Refusal
  /-- Raised by exec alone, for a command that has no meaning yet. Safe: the machine stops. -/
  | notModelled (mnemonic : String)
deriving DecidableEq, Repr

/-! ### Device controller (R3) -/

/-- bank_map of a profile (Table 1-3). -/
inductive BankMap
  | interleave
  | linear
deriving DecidableEq, Repr

/-- The six device-wide parameters of Table 1-3. -/
structure Profile where
  bankMap : BankMap
  refreshInterval : Nat
  postponeLimit : Nat
  scrubOnCorrect : Bool
  logCorrected : Bool
  holdCeiling : Nat
deriving DecidableEq, Repr

/-- The drain reason of R3. The pending profile is present only with reason PROFILE. -/
inductive Drain
  | profile (next : Profile)
  | quiesce
deriving DecidableEq, Repr

/-- The eight device states of Table 1-2. The drain reason is present only in DRAINING (R3). -/
inductive DevState
  | reset
  | calibrating
  | unconfigured
  | initializing
  | ready
  | draining (reason : Drain)
  | quiescent
  | halted
deriving DecidableEq, Repr

/-! ### Responses and events (R65 to R67) -/

/-- The closed set of status codes (Table 3-6). -/
inductive Status
  | ok | retry | deviceHalted | badRequest | unbound | nullAperture | staleBinding | noAperture | deniedPort
  | deniedTier | deniedRights | badAlign | outOfBounds | held | holdConflict | holdExhausted | noHold | poisoned
  | mgmtBusy | mgmtRejected | selfTarget
deriving DecidableEq, Repr

/-- The detail codes carried with MGMT_REJECTED (Table 3-7). -/
inductive Detail
  | badIndex | notFree | notLive | badDescriptor | badProfile | profileLocked | wrongState | badPort | noHold
  | readOnly | badRegister | notNow | logEmpty
deriving DecidableEq, Repr

/-- A response before it is laid out as Table 3-4. -/
structure Response where
  tag : Tag
  status : Status
  detail : Option Detail := none
  compareEqual : Bool := false
  payload : List Byte := []
deriving DecidableEq, Repr

/-- Why a hold was broken (Table 3-5). -/
inductive BreakReason
  | retire
  | management
  | drain
deriving DecidableEq, Repr

/-- Why PROTOCOL_ERROR was raised (Table 3-5). -/
inductive ProtocolReason
  | tagReuse
  | responseLost
deriving DecidableEq, Repr

/-- The device states that DEVICE_STATE announces (R16). -/
inductive StateNews
  | ready
  | draining
  | halted
deriving DecidableEq, Repr

/-- The events of R160 with their arguments (Table 3-5). -/
inductive Event
  | holdExpired (hold : HoldId)
  | holdBroken (hold : HoldId) (reason : BreakReason)
  | slotsStale (slots : BitVec 8)
  | protocolError (tag : Tag) (reason : ProtocolReason)
  | deviceState (news : StateNews)
  | logAttention
  | apertureFreed (index : ApIndex)
deriving DecidableEq, Repr

/-- A response in an egress queue, with its place in the order of R1 (R48). -/
structure QueuedResponse where
  placed : Nat
  response : Response
deriving DecidableEq, Repr

/-- An event in an event queue, with its place in the order of R1 (R151). -/
structure QueuedEvent where
  placed : Nat
  event : Event
deriving DecidableEq, Repr

/-! ### Link engine (R26) -/

/-- The link states of Table 2-2. -/
inductive LinkState
  | down
  | training
  | active
  | retrain
  | failed
deriving DecidableEq, Repr

/-- A DATA parcel of the replay buffer. -/
structure SentData where
  seq : Seq
  body : List Byte
deriving DecidableEq, Repr

/-- The state of a link engine (R26), with the parcels that wait to be sent (R46) and the last frame sent. -/
structure Link where
  state : LinkState
  fresh : Bool
  sendSeq : Seq
  recvSeq : Seq
  replay : List SentData
  /-- The retransmission point, named by the sequence number of its parcel. -/
  retransmit : Option Seq
  nakPending : Bool
  ackOwed : Bool
  replayAttempts : Nat
  ackTimer : Nat
  trainAttempts : Nat
  trainTimer : Nat
  requestAnswered : Bool
  answerReceived : Bool
  hostExpected : Option Seq
  crcErrors : BitVec 16
  replays : BitVec 16
  retrains : BitVec 16
  /-- A TRAIN_ACK waits to be sent (R46: at most one of each kind ever waits). -/
  trainAckWaiting : Bool
  /-- A TRAIN_REQ waits to be sent (R46). -/
  trainReqWaiting : Bool
  /-- A NAK waits to be sent (R46). -/
  nakWaiting : Bool
  /-- The model's own: the last frame that left on the lanes of this port. -/
  sent : Option (List Byte)
deriving DecidableEq, Repr

/-! ### Port front end (R51) and binding slots (R87) -/

/-- The port configuration (R51); the event mask is a subset of LOG_ATTENTION and APERTURE_FREED (R160). -/
structure PortConfig where
  enabled : Bool
  tier : Tier
  mgmtCapable : Bool
  maskAttention : Bool
  maskFreed : Bool
deriving DecidableEq, Repr

/-- The head condition of an ingress FIFO (R51). -/
inductive HeadCondition
  | none
  | waitingSpace
  | waitingFence
deriving DecidableEq, Repr

/-- The holder of an OUTSTANDING tag (R51). -/
inductive Holder
  | head
  | bank
  | mgmt
deriving DecidableEq, Repr

/-- The granularity of an aperture limit (R70). -/
inductive Granularity
  | unit
  | page
deriving DecidableEq, Repr

/-- A subset of the three rights (R70). -/
structure Rights where
  read : Bool
  write : Bool
  atomic : Bool
deriving DecidableEq, Repr

/-- The cached copy of a BOUND or STALE slot (Table 5-1). The aperture index and the generation are the handle's
(Table 4-2), so they are read from it. -/
structure SlotCopy where
  handle : BitVec 16
  effectiveTier : Tier
  base : UnitAddr
  /-- The effective limit, in units. -/
  limit : UnitAddr
  granularity : Granularity
  rights : Rights
deriving DecidableEq, Repr

/-- The four slot states of R87. -/
inductive Slot
  | empty
  | nullBound
  | bound (copy : SlotCopy)
  | stale (copy : SlotCopy)
deriving DecidableEq, Repr

/-- One port: its link engine, its front end, its slots and its event queue. -/
structure Port where
  link : Link
  /-- The ingress FIFO, oldest first (R51). -/
  fifo : List (List Byte)
  head : HeadCondition
  /-- The place of the taking of the request that waits at the head (R64). -/
  waitingSince : Nat
  /-- A new attempt of the waiting request is due (R64). -/
  attemptDue : Bool
  /-- The tag table: none is FREE. -/
  tags : Vector (Option Holder) 32
  egress : List QueuedResponse
  config : PortConfig
  slots : Vector Slot 8
  events : List QueuedEvent
  eventsLost : Bool
deriving DecidableEq, Repr

/-! ### Aperture table (R70) -/

/-- An aperture entry (Table 4-1), with the parity check's outcome and the two counts. -/
structure ApEntry where
  state : ApState
  generation : Generation
  base : UnitAddr
  limit : UnitAddr
  granularity : Granularity
  rights : Rights
  accessTier : Tier
  portMask : BitVec 4
  /-- The stored parity no longer agrees with the stored fields (R84). -/
  parityBad : Bool
  bindings : Nat
  inFlight : Nat
deriving DecidableEq, Repr

/-! ### Hold table (R127) -/

/-- An ACTIVE hold entry (Table 7-1); a FREE entry is none. -/
structure Hold where
  owner : PortId
  aperture : ApIndex
  generation : Generation
  first : UnitAddr
  span : Nat
  remaining : Nat
deriving DecidableEq, Repr

/-! ### Bank engine (R103, R105) -/

/-- The atomic operations (R124). -/
inductive AtomicOp
  | fetchAdd
  | swap
  | compareSwap
  | fetchOr
  | fetchAnd
deriving DecidableEq, Repr

/-- The kind of a queue entry with the data that its kind carries (Table 6-2). -/
inductive EntryOp
  | read
  | write (data : List Byte)
  | writeMasked (data : List Byte) (mask : BitVec 16)
  | atomic (op : AtomicOp) (high : Bool) (operand second : BitVec 64)
deriving DecidableEq, Repr

/-- An entry of a bank queue (Table 6-2). -/
structure Entry where
  port : PortId
  tag : Tag
  op : EntryOp
  unit : UnitAddr
  length : Nat
  aperture : ApIndex
  /-- The admission position. -/
  position : Nat
  parkedOn : Option HoldId
  discarded : Bool
  orphaned : Bool
deriving DecidableEq, Repr

/-- What a SERVING bank serves: a queue entry, named by its admission position, with the two profile fields taken at the
start (R113), or a clearing service (R122). -/
inductive Work
  | entry (position : Nat) (scrub log : Bool)
  | clearing
deriving DecidableEq, Repr

/-- The three bank states (R109). -/
inductive BankState
  | idle
  | serving (work : Work)
  | refreshing
deriving DecidableEq, Repr

/-- A bank engine (Table 6-1). Its share of the array lies in the device's memory, by the mapping of R104. -/
structure Bank where
  state : BankState
  queue : List Entry
  parked : Nat
  owed : Nat
  sinceRefresh : Nat
  owedMax : Nat
  clearPosition : Nat
  corrected : BitVec 16
  /-- A decision point of this bank is due (R110). -/
  decisionDue : Bool
deriving DecidableEq, Repr

/-! ### Event and fault unit (R151, R152) -/

/-- The fault classes (Table 9-2). -/
inductive FaultClass
  | protection
  | data
  | link
  | protocol
  | hold
  | device
  | management
deriving DecidableEq, Repr

/-- The fault codes of Table 9-2; a MANAGEMENT code that is a detail code carries it (R153). -/
inductive FaultCode
  | unbound | nullAperture | staleBinding | deniedRights | badAlign | outOfBounds | noAperture | deniedPort
  | deniedTier | mgmtDenied
  | corrected | poisoned
  | retrainLocal | retrainRemote | linkFailed | hostReset | badAck
  | badRequest | shortRequest | tagReuse | ingressFull | responseLost | eventLost
  | holdBadAlign | holdBadSpan | holdOutOfBounds | holdExhausted | holdConflict | held | noHold | holdExpired
  | haltCommand | tableParity
  | rejected (detail : Detail) | selfTarget | spiRefused | spiBadOpcode
deriving DecidableEq, Repr

/-- A fault as it is offered: its code, which names its class, and its optional fields (R152). -/
structure Offer where
  code : FaultCode
  port : Option PortId := none
  tag : Option Tag := none
  slot : Option SlotId := none
  aperture : Option ApIndex := none
  unit : Option UnitAddr := none
deriving DecidableEq, Repr

/-- A fault record of the log (R152). -/
structure FaultRecord where
  sequence : BitVec 16
  fault : Offer
  stamp : Word
  repeats : BitVec 8
deriving DecidableEq, Repr

/-- The device-wide part of the event and fault unit (R151). -/
structure FaultUnit where
  log : List FaultRecord
  nextSequence : BitVec 16
  overflow : BitVec 16
  episode : Bool
  attention : Bool
  classMask : BitVec 7
  alertMask : BitVec 7
deriving DecidableEq, Repr

/-! ### Management sequencer and SPI port (R164) -/

/-- The source of a queued command (R164). -/
inductive Source
  | spi
  | port (port : PortId) (tag : Tag)
deriving DecidableEq, Repr

/-- A queued command (R164). -/
structure QueuedCommand where
  source : Source
  block : List Byte
  placed : Nat
deriving DecidableEq, Repr

/-- The SPI command slot state (R164). -/
inductive SpiSlot
  | idle
  | queued
  | executing
  | done
deriving DecidableEq, Repr

/-- The kinds of injected health (R118). -/
inductive InjectKind
  | correctable
  | uncorrectable
deriving DecidableEq, Repr

/-- The management sequencer and the SPI port (R164, R179). -/
structure Mgmt where
  queue : List QueuedCommand
  spiSlot : SpiSlot
  refused : Bool
  spiError : Bool
  /-- The last result block, 20 bytes. -/
  result : List Byte
  /-- The ECC injection arm; none is NONE. -/
  arm : Option (UnitAddr × InjectKind)
  consumed : Bool
  /-- The model's own: the bytes driven on SPI_MISO in the last transaction, none while it is undriven. -/
  miso : Option (List Byte)
deriving DecidableEq, Repr

/-! ### The whole part -/

/-- The state of the JB8064 and the queue of the commands that wait for it. -/
structure State where
  /-- The device state (R3). -/
  device : DevState
  staged : Profile
  active : Profile
  /-- The tick count of the timebase (R142). -/
  tickCount : Word
  ports : Vector Port 4
  apertures : Vector ApEntry 1024
  holds : Vector (Option Hold) 16
  banks : Vector Bank 8
  faults : FaultUnit
  mgmt : Mgmt
  /-- The data of the memory array by byte address, unit address times 16 plus byte (R103). -/
  memory : List Host.Cell
  /-- The health of each unit that is not CLEAN, by unit address (R113). -/
  health : List (Nat × Health)
  /-- The ticks that have fallen due and not yet taken effect, oldest first, each with the set of ports whose ACK-owed
  flag was set when it fell due and has not been cleared since (R142). -/
  ticksDue : List (BitVec 4)
  /-- The decision points that are due were prompted by a tick, so a later tick does not hold them (R143). -/
  tickDecisions : Bool
  /-- The aperture entries whose lookup failed within a teardown of the event in progress (R85); empty between events. -/
  parityPending : List ApIndex
  /-- The next place in the order of R1 that a body, an entry, a command or a waiting request will take. -/
  order : Nat
  /-- The commands that wait, first in, first out: the model's queue, not the part's. -/
  pending : List Instr
deriving DecidableEq, Repr

/-! ### After RESET_N -/

/-- The default profile (Table 1-3). -/
def defaultProfile : Profile :=
  { bankMap := .interleave, refreshInterval := 4, postponeLimit := 4, scrubOnCorrect := true, logCorrected := false,
    holdCeiling := 4096 }

/-- A link engine after RESET_N (R25, R26). -/
def resetLink : Link :=
  { state := .down, fresh := false, sendSeq := 0, recvSeq := 0, replay := [], retransmit := none, nakPending := false,
    ackOwed := false, replayAttempts := 0, ackTimer := 0, trainAttempts := 0, trainTimer := 0, requestAnswered := false,
    answerReceived := false, hostExpected := none, crcErrors := 0, replays := 0, retrains := 0, trainAckWaiting := false,
    trainReqWaiting := false, nakWaiting := false, sent := none }

/-- A port after RESET_N (R25, R51). -/
def resetPort : Port :=
  { link := resetLink, fifo := [], head := .none, waitingSince := 0, attemptDue := false,
    tags := Vector.replicate 32 none, egress := [],
    config := { enabled := true, tier := 3, mgmtCapable := false, maskAttention := false, maskFreed := false },
    slots := Vector.replicate 8 .empty, events := [], eventsLost := false }

/-- No right. -/
def noRights : Rights := { read := false, write := false, atomic := false }

/-- An aperture entry after RESET_N (R70). -/
def resetEntry : ApEntry :=
  { state := .free, generation := 0, base := 0, limit := 0, granularity := .unit, rights := noRights, accessTier := 0,
    portMask := 0, parityBad := false, bindings := 0, inFlight := 0 }

/-- A bank engine after RESET_N (R103, R144). -/
def resetBank : Bank :=
  { state := .idle, queue := [], parked := 0, owed := 0, sinceRefresh := 0, owedMax := 0, clearPosition := 0,
    corrected := 0, decisionDue := false }

/-- The event and fault unit after RESET_N (R151); the alert mask holds DATA and DEVICE. -/
def resetFaults : FaultUnit :=
  { log := [], nextSequence := 0, overflow := 0, episode := false, attention := false, classMask := 0x7F,
    alertMask := 0x22 }

/-- The management sequencer and SPI port after RESET_N (R164, R179). -/
def resetMgmt : Mgmt :=
  { queue := [], spiSlot := .idle, refused := false, spiError := false, result := List.replicate 20 0, arm := none,
    consumed := false, miso := none }

/-- The part with RESET_N low (R4, Table 11-1). The spec gives the memory array no contents here; the model's memory lists
nothing, which reads as zero and CLEAN (notes/assumptions/1.md). -/
def State.reset : State :=
  { device := .reset, staged := defaultProfile, active := defaultProfile, tickCount := 0,
    ports := Vector.replicate 4 resetPort, apertures := Vector.replicate 1024 resetEntry,
    holds := Vector.replicate 16 none, banks := Vector.replicate 8 resetBank, faults := resetFaults, mgmt := resetMgmt,
    memory := [], health := [], ticksDue := [], tickDecisions := false, parityPending := [], order := 0, pending := [] }

end Sys2Proof.Machine
end

