-- ==== Sys2Proof/Machine/Update.lean ====
section
/-! DEFINITION. The named reads and updates of the parts of State: every operation on a port, a link, a bank, an aperture entry
or a hold goes through one of these. -/

namespace Sys2Proof.Machine

/-- The port `p`. -/
def State.port (s : State) (p : PortId) : Port := s.ports[p]

/-- The port `p` changed. What concerns its link goes through `State.modLink`. -/
def State.modPort (s : State) (p : PortId) (change : Port → Port) : State :=
  { s with ports := s.ports.set p (change (s.port p)) }

/-- The link engine of port `p`. -/
def State.link (s : State) (p : PortId) : Link := (s.port p).link

/-- The ticks due with port `p` no longer waited for (R142). -/
def releaseTicks (p : PortId) (ticks : List (BitVec 4)) : List (BitVec 4) :=
  ticks.map fun waits => waits &&& ~~~(BitVec.ofNat 4 (2 ^ p.val))

/-- The link engine of port `p` changed. Whenever its ACK-owed flag is clear afterwards, no tick waits for it (R142). -/
def State.modLink (s : State) (p : PortId) (change : Link → Link) : State :=
  let after := change (s.link p)
  { s.modPort p (fun port => { port with link := after }) with
    ticksDue := if after.ackOwed then s.ticksDue else releaseTicks p s.ticksDue }

/-- The bank engine `b`. -/
def State.bank (s : State) (b : BankId) : Bank := s.banks[b]

/-- The bank engine `b` changed. -/
def State.modBank (s : State) (b : BankId) (change : Bank → Bank) : State :=
  { s with banks := s.banks.set b (change (s.bank b)) }

/-- The aperture entry `i`. -/
def State.entry (s : State) (i : ApIndex) : ApEntry := s.apertures[i]

/-- The aperture entry `i` changed. -/
def State.modEntry (s : State) (i : ApIndex) (change : ApEntry → ApEntry) : State :=
  { s with apertures := s.apertures.set i (change (s.entry i)) }

/-- The hold entry `h`; none is FREE. -/
def State.hold (s : State) (h : HoldId) : Option Hold := s.holds[h]

/-- The hold entry `h` set. -/
def State.setHold (s : State) (h : HoldId) (entry : Option Hold) : State := { s with holds := s.holds.set h entry }

/-- The slot `k` of port `p`. -/
def State.slot (s : State) (p : PortId) (k : SlotId) : Slot := (s.port p).slots[k]

/-- The holder of tag `t` of port `p`; none is FREE. -/
def State.tagHolder (s : State) (p : PortId) (t : Tag) : Option Holder := (s.port p).tags[t]

/-- Tag `t` of port `p` made OUTSTANDING with a holder, or FREE (R60). -/
def State.setTag (s : State) (p : PortId) (t : Tag) (holder : Option Holder) : State :=
  s.modPort p fun port => { port with tags := port.tags.set t holder }

/-- The event and fault unit changed. -/
def State.modFaults (s : State) (change : FaultUnit → FaultUnit) : State := { s with faults := change s.faults }

/-- The management sequencer and SPI port changed. -/
def State.modMgmt (s : State) (change : Mgmt → Mgmt) : State := { s with mgmt := change s.mgmt }

/-- The device state set. -/
def State.setDevice (s : State) (device : DevState) : State := { s with device := device }

/-- The next place in the order of R1 is used up. -/
def State.nextPlace (s : State) : State := { s with order := s.order + 1 }

/-- The ports in the order P0 to P3. -/
def allPorts : List PortId := [0, 1, 2, 3]

/-- The banks in the order B0 to B7. -/
def allBanks : List BankId := [0, 1, 2, 3, 4, 5, 6, 7]

/-- The slots in the order S0 to S7. -/
def allSlots : List SlotId := [0, 1, 2, 3, 4, 5, 6, 7]

/-- The hold ids in ascending order. -/
def allHolds : List HoldId := List.finRange 16

/-- Every bank changed alike. -/
def State.mapBanks (s : State) (change : Bank → Bank) : State := { s with banks := s.banks.map change }

end Sys2Proof.Machine
end

