-- ==== Sys2Proof/Machine/Flags.lean ====
section
/-! DEFINITION. The conditions that are computed from State and never stored: the classes and values of fault codes (Table 9-2),
the attention condition (R158), ALERT_N (R159), the outstanding tags, the drain completion test (R14) and the permission
table (R171). -/

namespace Sys2Proof.Machine

/-! ### Fault codes (Table 9-2) -/

/-- The class of a fault code. -/
def faultClass : FaultCode → FaultClass
  | .unbound | .nullAperture | .staleBinding | .deniedRights | .badAlign | .outOfBounds | .noAperture | .deniedPort
  | .deniedTier | .mgmtDenied => .protection
  | .corrected | .poisoned => .data
  | .retrainLocal | .retrainRemote | .linkFailed | .hostReset | .badAck => .link
  | .badRequest | .shortRequest | .tagReuse | .ingressFull | .responseLost | .eventLost => .protocol
  | .holdBadAlign | .holdBadSpan | .holdOutOfBounds | .holdExhausted | .holdConflict | .held | .noHold
  | .holdExpired => .hold
  | .haltCommand | .tableParity => .device
  | .rejected _ | .selfTarget | .spiRefused | .spiBadOpcode => .management

/-- The value of a class. -/
def classValue : FaultClass → Nat
  | .protection => 1
  | .data => 2
  | .link => 3
  | .protocol => 4
  | .hold => 5
  | .device => 6
  | .management => 7

/-- The class is in a mask: bit c − 1 for the class of value c (Table 11-4). -/
def inMask (mask : BitVec 7) (code : FaultCode) : Bool := mask.getLsbD (classValue (faultClass code) - 1)

/-! ### Attention and ALERT_N -/

/-- The log holds a record whose class is in the alert mask (R158, R159). -/
def FaultUnit.alertRecord (u : FaultUnit) : Bool := u.log.any fun record => inMask u.alertMask record.fault.code

/-- The attention condition (R158). -/
def FaultUnit.condition (u : FaultUnit) : Bool := u.alertRecord || u.episode

/-- ALERT_N is asserted, low (R159). -/
def State.alertAsserted (s : State) : Bool :=
  s.faults.alertRecord || decide (s.faults.overflow ≠ 0) || decide (s.device = .halted)

/-! ### Tags (R51, R58) -/

/-- The number of OUTSTANDING tags of a port. -/
def outstanding (port : Port) : Nat := (port.tags.toList.filter Option.isSome).length

/-- The tag is the port's only OUTSTANDING tag. -/
def onlyOutstanding (port : Port) (tag : Tag) : Bool :=
  (List.finRange 32).all fun other => port.tags[other].isSome == decide (other = tag)

/-- Every OUTSTANDING tag of the port is that of a MGMT request. -/
def onlyMgmtTags (port : Port) : Bool := port.tags.toList.all fun holder => decide (holder = none ∨ holder = some .mgmt)

/-! ### Device state -/

/-- The device is DRAINING. -/
def DevState.isDraining : DevState → Bool
  | .draining _ => true
  | _ => false

/-- The states in which links train on entry and front ends take requests (R29, R51). -/
def DevState.linksRun : DevState → Bool
  | .ready | .draining _ | .halted => true
  | _ => false

/-- The bank engine is serving a queue entry (R109). -/
def servesEntry (bank : Bank) : Bool :=
  match bank.state with
  | .serving (.entry _ _ _) => true
  | _ => false

/-- The drain completion test of R14. -/
def State.drainDone (s : State) : Bool :=
  (s.banks.toList.all fun bank => bank.queue.isEmpty && !servesEntry bank && decide (bank.owed = 0)) &&
    s.ports.toList.all onlyMgmtTags

/-! ### Management commands (Table 10-5, R169, R171) -/

/-- The commands of the catalogue. -/
inductive Command
  | regRead | regWrite | apertureCreate | apertureModify | apertureRetire | apertureRead | portConfig | portReset
  | logPop | logPeek | logClear | profileStage | profileCommit | quiesce | resume | datapathReset | holdBreak
  | injectEcc | halt
deriving DecidableEq, Repr

/-- The command that a command code names (Table 10-5). -/
def commandOf : Nat → Option Command
  | 1 => some .regRead
  | 2 => some .regWrite
  | 3 => some .apertureCreate
  | 4 => some .apertureModify
  | 5 => some .apertureRetire
  | 6 => some .apertureRead
  | 7 => some .portConfig
  | 8 => some .portReset
  | 9 => some .logPop
  | 10 => some .logPeek
  | 11 => some .logClear
  | 12 => some .profileStage
  | 13 => some .profileCommit
  | 14 => some .quiesce
  | 15 => some .resume
  | 16 => some .datapathReset
  | 17 => some .holdBreak
  | 18 => some .injectEcc
  | 19 => some .halt
  | _ => none

/-- The block length of a command (Table 10-5). -/
def blockLength : Command → Nat
  | .regRead | .apertureRetire | .apertureRead | .portReset | .logPeek | .holdBreak => 8
  | .regWrite | .portConfig | .profileStage | .injectEcc => 12
  | .apertureCreate | .apertureModify => 20
  | .logPop | .logClear | .profileCommit | .quiesce | .resume | .datapathReset | .halt => 4

/-- The command is permitted in the device state (Table 10-4). -/
def permitted (command : Command) (device : DevState) : Bool :=
  match command, device with
  | _, .reset | _, .calibrating => false
  | .regRead, _ | .apertureRead, _ | .logPop, _ | .logPeek, _ | .logClear, _ => true
  | _, .halted => false
  | .profileCommit, .draining _ => false
  | .profileCommit, _ => true
  | .resume, .ready | .resume, .draining _ | .resume, .quiescent => true
  | .resume, _ => false
  | .quiesce, .ready => true
  | .quiesce, _ => false
  | .datapathReset, .ready | .datapathReset, .draining _ | .holdBreak, .ready | .holdBreak, .draining _ => true
  | .datapathReset, _ | .holdBreak, _ => false
  | _, _ => true

/-- The aperture commands, whose records carry the index that they name (R153). -/
def isApertureCommand : Command → Bool
  | .apertureCreate | .apertureModify | .apertureRetire | .apertureRead => true
  | _ => false

end Sys2Proof.Machine
end

