-- ==== Sys2Proof/Machine/Bytes.lean ====
section
/-! DEFINITION. Little-endian numbers, bit fields, saturating counters and the parcel CRC (R2, R28). -/

namespace Sys2Proof.Machine

/-- The number that bytes spell, the first byte the least significant (notation of the spec, section 1.5). -/
def leNat : List Byte → Nat
  | [] => 0
  | b :: rest => b.toNat + 256 * leNat rest

/-- The `count` little-endian bytes of a number. -/
def leBytes : (count : Nat) → (value : Nat) → List Byte
  | 0, _ => []
  | count + 1, value => BitVec.ofNat 8 value :: leBytes count (value / 256)

/-- The field of `width` bits of a number that starts at bit `low`. -/
def field (value low width : Nat) : Nat := value / 2 ^ low % 2 ^ width

/-- The byte at a place of a block, 0 where the block ends before it. -/
def byteAt (block : List Byte) (place : Nat) : Byte := block.getD place 0

/-- The little-endian number in the `count` bytes of a block from a place on. -/
def numberAt (block : List Byte) (place count : Nat) : Nat := leNat ((block.drop place).take count)

/-- Bytes filled up with zeros to a length. -/
def padded (length : Nat) (bytes : List Byte) : List Byte := bytes ++ List.replicate (length - bytes.length) 0

/-- A 16-bit counter incremented, saturating at 65535 (R2). -/
def count16 (counter : BitVec 16) : BitVec 16 := if counter = 0xFFFF then counter else counter + 1

/-- The repeat count of a record incremented, saturating at 255 (R155). -/
def count8 (counter : BitVec 8) : BitVec 8 := if counter = 0xFF then counter else counter + 1

/-- One bit of the CRC: the generator polynomial 04C11DB7H, taken least significant bit first (R28). -/
def crcBit (remainder : Word) : Word :=
  if remainder.getLsbD 0 then (remainder >>> 1) ^^^ 0xEDB88320#32 else remainder >>> 1

/-- One byte of the CRC, least significant bit first (R28). -/
def crcByte (remainder : Word) (byte : Byte) : Word :=
  crcBit (crcBit (crcBit (crcBit (crcBit (crcBit (crcBit (crcBit (remainder ^^^ byte.setWidth 32))))))))

/-- The CRC of R28: initial remainder FFFFFFFFH and a final inversion. -/
def crc (bytes : List Byte) : Word := ~~~(bytes.foldl crcByte 0xFFFFFFFF#32)

/-- The distance from one sequence number to another (section 2.1): the increments that take one to the other. -/
def distance (start stop : Seq) : Nat := (stop - start).toNat

end Sys2Proof.Machine
end

