-- ==== Sys2Proof/Machine/Operands.lean ====
section
/-! DEFINITION. The operand forms: request headers and payloads (R52, R53), handles (Table 4-2), aperture descriptors (R71),
the checks and the translation of a data request against a slot (R95 to R100), unit ranges, the bank mapping (R104) and the
argument bytes of management commands (R172 to R175). -/

namespace Sys2Proof.Machine

/-! ### Request header (Table 3-1, Table 3-3) -/

/-- The request kinds (Table 3-3); kind codes 0 and 12 to 15 are invalid (R53). -/
inductive RequestKind
  | read | write | writeMasked | atomic | bind | unbind | querySlot | holdOpen | holdRelease | fence | mgmt | invalid
deriving DecidableEq, Repr

/-- The kind that a kind code names. -/
def requestKind : Nat → RequestKind
  | 1 => .read
  | 2 => .write
  | 3 => .writeMasked
  | 4 => .atomic
  | 5 => .bind
  | 6 => .unbind
  | 7 => .querySlot
  | 8 => .holdOpen
  | 9 => .holdRelease
  | 10 => .fence
  | 11 => .mgmt
  | _ => .invalid

/-- A request header, field by field (Table 3-1). -/
structure Header where
  kind : RequestKind
  tag : Tag
  slot : SlotId
  lengthCode : Nat
  offset : Nat
  specific : Nat
deriving DecidableEq, Repr

/-- The header of a body: its first 8 bytes as a little-endian word (R52). -/
def headerOf (body : List Byte) : Header :=
  let word := numberAt body 0 8
  { kind := requestKind (field word 60 4), tag := Fin.ofNat 32 (field word 55 5), slot := Fin.ofNat 8 (field word 52 3),
    lengthCode := field word 50 2, offset := field word 24 26, specific := field word 0 24 }

/-- The body has no header: it is shorter than 8 bytes (R53). -/
def tooShort (body : List Byte) : Bool := decide (body.length < 8)

/-- The units that a length code names; code 3 is invalid (Table 3-1). -/
def unitsOfCode : Nat → Nat
  | 0 => 1
  | 1 => 2
  | 2 => 4
  | _ => 0

/-- The atomic operation that the kind-specific field names; 5 to 7 are invalid (Table 3-2). -/
def atomicOpOf : Nat → Option AtomicOp
  | 0 => some .fetchAdd
  | 1 => some .swap
  | 2 => some .compareSwap
  | 3 => some .fetchOr
  | 4 => some .fetchAnd
  | _ => none

/-- The length of the transfer in units (R52, R99). -/
def transferUnits (header : Header) : Nat :=
  match header.kind with
  | .read | .write => unitsOfCode header.lengthCode
  | _ => 1

/-- The format check of R53 on a body of at least 8 bytes: kind, length code, op and body length. -/
def formatOk (header : Header) (length : Nat) : Bool :=
  match header.kind with
  | .read => decide (header.lengthCode ≠ 3 ∧ length = 8)
  | .write => decide (header.lengthCode ≠ 3 ∧ length = 8 + 16 * unitsOfCode header.lengthCode)
  | .writeMasked => decide (length = 26)
  | .atomic =>
    match atomicOpOf (field header.specific 0 3) with
    | none => false
    | some .compareSwap => decide (length = 24)
    | some _ => decide (length = 16)
  | .bind | .unbind | .querySlot | .holdOpen | .holdRelease | .fence => decide (length = 8)
  | .mgmt => decide (9 ≤ length ∧ length ≤ 128)
  | .invalid => false

/-- The kind and data of the entry that a data request becomes (R52, R105). -/
def entryOp (header : Header) (body : List Byte) : EntryOp :=
  match header.kind with
  | .write => .write ((body.drop 8).take (16 * unitsOfCode header.lengthCode))
  | .writeMasked => .writeMasked ((body.drop 8).take 16) (BitVec.ofNat 16 (numberAt body 24 2))
  | .atomic =>
    .atomic ((atomicOpOf (field header.specific 0 3)).getD .fetchAdd) (decide (header.offset % 16 = 8))
      (BitVec.ofNat 64 (numberAt body 8 8)) (BitVec.ofNat 64 (numberAt body 16 8))
  | _ => .read

/-- WRITE, WRITE_MASKED and ATOMIC are write-type (section 1.4). -/
def writeType : RequestKind → Bool
  | .write | .writeMasked | .atomic => true
  | _ => false

/-- A queue entry is write-type. -/
def entryWrites : EntryOp → Bool
  | .read => false
  | _ => true

/-! ### Handles (Table 4-2) -/

/-- The index field of a handle. -/
def handleIndex (handle : BitVec 16) : ApIndex := Fin.ofNat 1024 (field handle.toNat 6 10)

/-- The generation field of a handle. -/
def handleGeneration (handle : BitVec 16) : Generation := BitVec.ofNat 4 (field handle.toNat 2 4)

/-- The requested tier of a handle. -/
def handleTier (handle : BitVec 16) : Tier := Fin.ofNat 4 (field handle.toNat 0 2)

/-- The handle of an index, a generation and a requested tier. -/
def handleOf (index : ApIndex) (generation : Generation) (tier : Tier) : BitVec 16 :=
  BitVec.ofNat 16 (index.val * 64 + generation.toNat * 4 + tier.val)

/-- The handle that a BIND carries in its kind-specific field (Table 3-2). -/
def bindHandle (header : Header) : BitVec 16 := BitVec.ofNat 16 (field header.specific 0 16)

/-- The cached aperture index of a BOUND or STALE slot. -/
def slotIndex : Slot → Option ApIndex
  | .bound copy | .stale copy => some (handleIndex copy.handle)
  | .empty | .nullBound => none

/-! ### Aperture descriptors (R70, R71) -/

/-- The effective limit in units (R70). -/
def effectiveLimit (granularity : Granularity) (limit : Nat) : Nat :=
  match granularity with
  | .unit => limit
  | .page => (limit + 1) * 256 - 1

/-- The effective limit of an entry. -/
def entryLimit (entry : ApEntry) : UnitAddr := BitVec.ofNat 22 (effectiveLimit entry.granularity entry.limit.toNat)

/-- The rights that the low three bits of a byte name (R172). -/
def rightsOf (byte : Byte) : Rights :=
  { read := byte.getLsbD 0, write := byte.getLsbD 1, atomic := byte.getLsbD 2 }

/-- The byte that reports rights (Table 5-3, R172). -/
def rightsByte (rights : Rights) : Byte :=
  BitVec.ofNat 8 (rights.read.toNat + 2 * rights.write.toNat + 4 * rights.atomic.toNat)

/-- The byte that reports a granularity (Table 5-3, R172). -/
def granularityByte : Granularity → Byte
  | .unit => 0
  | .page => 1

/-- A descriptor that APERTURE_CREATE or APERTURE_MODIFY supplies. -/
structure Descriptor where
  base : UnitAddr
  limit : UnitAddr
  granularity : Granularity
  rights : Rights
  accessTier : Tier
  portMask : BitVec 4
deriving DecidableEq, Repr

/-- The granularity that a byte names (R172). -/
def granularityOf (byte : Byte) : Option Granularity :=
  if byte = 0 then some .unit else if byte = 1 then some .page else none

/-- The largest limit of a granularity (R71, condition 3). -/
def maxLimit : Granularity → Nat
  | .unit => 0x3FFFFF
  | .page => 0x3FFF

/-- The descriptor in the argument bytes of a block, none where it breaks a condition of R71. -/
def descriptorOf (block : List Byte) : Option Descriptor :=
  let base := numberAt block 8 4
  let limit := numberAt block 12 4
  let tier := (byteAt block 18).toNat
  match granularityOf (byteAt block 16) with
  | none => none
  | some granularity =>
    if base % 4 = 0 ∧ base ≤ 0x3FFFFC ∧ limit ≤ maxLimit granularity ∧
        base + effectiveLimit granularity limit ≤ 0x3FFFFF ∧ tier ≤ 3 then
      some { base := BitVec.ofNat 22 base, limit := BitVec.ofNat 22 limit, granularity := granularity,
             rights := rightsOf (byteAt block 17), accessTier := Fin.ofNat 4 tier,
             portMask := BitVec.ofNat 4 (byteAt block 19).toNat }
    else none

/-- The index argument of an aperture command, none outside 1 to 1023 (R172). -/
def indexArgument (block : List Byte) : Option ApIndex :=
  let index := numberAt block 4 2
  if 1 ≤ index ∧ index ≤ 1023 then some (Fin.ofNat 1024 index) else none

/-- The port argument of PORT_CONFIG and PORT_RESET, none above 3 (R173, R174). -/
def portArgument (block : List Byte) : Option PortId :=
  let port := (byteAt block 4).toNat
  if port ≤ 3 then some (Fin.ofNat 4 port) else none

/-- The configuration that PORT_CONFIG carries (R173). -/
def configArgument (block : List Byte) : PortConfig :=
  { enabled := (byteAt block 5).getLsbD 0, tier := Fin.ofNat 4 (field (byteAt block 6).toNat 0 2),
    mgmtCapable := (byteAt block 7).getLsbD 0, maskAttention := (byteAt block 8).getLsbD 0,
    maskFreed := (byteAt block 8).getLsbD 1 }

/-- The switch that a byte names: 0 off, 1 on, no other value (R174). -/
def switchOf (byte : Byte) : Option Bool :=
  if byte = 0 then some false else if byte = 1 then some true else none

/-- The bank map that a byte names (R174). -/
def bankMapOf (byte : Byte) : Option BankMap :=
  if byte = 0 then some .interleave else if byte = 1 then some .linear else none

/-- The profile that PROFILE_STAGE carries, none where a field is out of range (R7, R174). -/
def profileArgument (block : List Byte) : Option Profile :=
  let interval := (byteAt block 5).toNat
  let limit := (byteAt block 6).toNat
  let ceiling := numberAt block 10 2
  match bankMapOf (byteAt block 4), switchOf (byteAt block 7), switchOf (byteAt block 8) with
  | some map, some scrub, some log =>
    if 2 ≤ interval ∧ interval ≤ 32 ∧ limit ≤ 4 ∧ 1 ≤ ceiling then
      some { bankMap := map, refreshInterval := interval, postponeLimit := limit, scrubOnCorrect := scrub,
             logCorrected := log, holdCeiling := ceiling }
    else none
  | _, _, _ => none

/-- The arm that INJECT_ECC carries: none where it is rejected, some none for kind NONE (R175). -/
def armArgument (block : List Byte) : Option (Option (UnitAddr × InjectKind)) :=
  let unit := numberAt block 4 4
  let kind := byteAt block 8
  if kind = 0 then some none
  else if kind = 1 ∧ unit ≤ 0x3FFFFF then some (some (BitVec.ofNat 22 unit, .correctable))
  else if kind = 2 ∧ unit ≤ 0x3FFFFF then some (some (BitVec.ofNat 22 unit, .uncorrectable))
  else none

/-! ### Unit ranges and the bank mapping -/

/-- The units of a transfer, in ascending order (R100). -/
def unitsFrom (first : UnitAddr) (length : Nat) : List UnitAddr :=
  (List.range length).map fun step => first + BitVec.ofNat 22 step

/-- Two unit ranges share a unit (R105). -/
def overlaps (first : UnitAddr) (length : Nat) (other : UnitAddr) (otherLength : Nat) : Bool :=
  decide (first.toNat < other.toNat + otherLength ∧ other.toNat < first.toNat + length)

/-- The bank of a unit address (R104). -/
def bankOf (map : BankMap) (unit : Nat) : BankId :=
  match map with
  | .interleave => Fin.ofNat 8 (unit / 4)
  | .linear => Fin.ofNat 8 (unit / Config.bankUnits)

/-- The bank-local address of a unit address (R104). -/
def localOf (map : BankMap) (unit : Nat) : Nat :=
  match map with
  | .interleave => unit / 32 * 4 + unit % 4
  | .linear => unit % Config.bankUnits

/-- The clearing service of a bank at a clearing position writes this unit (R122). -/
def clears (map : BankMap) (bank : BankId) (position : Nat) (unit : Nat) : Bool :=
  decide (bankOf map unit = bank ∧ localOf map unit / Config.clearingUnits = position)

/-! ### The checks of a data request (Table 5-4, steps 4 to 8) -/

/-- Why a check refuses a request: the status, the code of its record and the aperture index of the record (R101). -/
structure Refused where
  status : Status
  code : FaultCode
  aperture : Option ApIndex
deriving DecidableEq, Repr

/-- What the translation of a request yields (R100): its first unit, its length in units and the aperture index. -/
structure Transfer where
  unit : UnitAddr
  length : Nat
  aperture : ApIndex
deriving DecidableEq, Repr

/-- The slot state check (R96). -/
def slotCheck : Slot → Except Refused SlotCopy
  | .empty => .error { status := .unbound, code := .unbound, aperture := none }
  | .nullBound => .error { status := .nullAperture, code := .nullAperture, aperture := none }
  | .stale copy =>
    .error { status := .staleBinding, code := .staleBinding, aperture := some (handleIndex copy.handle) }
  | .bound copy => .ok copy

/-- The right that a kind needs is among the rights (R97). -/
def rightHeld (kind : RequestKind) (rights : Rights) : Bool :=
  match kind with
  | .read => rights.read
  | .write | .writeMasked | .holdOpen => rights.write
  | .atomic => rights.atomic
  | _ => false

/-- The size that the offset of a transfer must be a multiple of (R98). -/
def alignment (header : Header) : Nat :=
  match header.kind with
  | .atomic => 8
  | _ => 16 * transferUnits header

/-- The unit address of an offset through a slot: the cached base plus the offset divided by 16 (R100). -/
def unitOfOffset (copy : SlotCopy) (offset : Nat) : UnitAddr := copy.base + BitVec.ofNat 22 (offset / 16)

/-- The bounds test of R99 for a range of units through a slot. -/
def inBounds (copy : SlotCopy) (offset length : Nat) : Bool :=
  decide (offset / 16 + length ≤ copy.limit.toNat + 1)

/-- The slot state, rights, alignment and bounds checks of a data request and its translation, against a slot (R95). -/
def translate (slot : Slot) (header : Header) : Except Refused Transfer :=
  match slotCheck slot with
  | .error refused => .error refused
  | .ok copy =>
    let index := handleIndex copy.handle
    if !rightHeld header.kind copy.rights then
      .error { status := .deniedRights, code := .deniedRights, aperture := some index }
    else if header.offset % alignment header ≠ 0 then
      .error { status := .badAlign, code := .badAlign, aperture := some index }
    else if !inBounds copy header.offset (transferUnits header) then
      .error { status := .outOfBounds, code := .outOfBounds, aperture := some index }
    else .ok { unit := unitOfOffset copy header.offset, length := transferUnits header, aperture := index }

/-! ### HOLD_OPEN and HOLD_RELEASE (R57, R129) -/

/-- The span field of HOLD_OPEN (Table 3-2). -/
def spanField (header : Header) : Nat := field header.specific 0 7

/-- The requested duration of HOLD_OPEN (Table 3-2). -/
def durationField (header : Header) : Nat := field header.specific 7 16

/-- The hold id of HOLD_RELEASE (Table 3-2). -/
def holdField (header : Header) : HoldId := Fin.ofNat 16 (field header.specific 0 4)

/-- The granted duration (R131). -/
def grantedDuration (requested ceiling : Nat) : Nat :=
  if requested = 0 then ceiling else min requested ceiling

/-! ### Atomic operations (R124) -/

/-- The new value and the compare-equal flag of an atomic operation. -/
def atomicResult (op : AtomicOp) (old operand second : BitVec 64) : BitVec 64 × Bool :=
  match op with
  | .fetchAdd => (old + operand, false)
  | .swap => (operand, false)
  | .compareSwap => if old = operand then (second, true) else (old, false)
  | .fetchOr => (old ||| operand, false)
  | .fetchAnd => (old &&& operand, false)

/-- The 16 bytes of a unit with the enabled bytes replaced (R116). -/
def mergeBytes (mask : BitVec 16) (data old : List Byte) : List Byte :=
  (List.range 16).map fun place => if mask.getLsbD place then byteAt data place else byteAt old place

/-- The first byte of the half of a unit (R100). -/
def halfPlace (high : Bool) : Nat := if high then 8 else 0

/-- The value of a half of a unit, little-endian (R124). -/
def halfValue (high : Bool) (data : List Byte) : BitVec 64 := BitVec.ofNat 64 (numberAt data (halfPlace high) 8)

/-- The bytes of a unit with one half replaced (R125, step 4). -/
def replaceHalf (high : Bool) (value : BitVec 64) (data : List Byte) : List Byte :=
  if high then data.take 8 ++ leBytes 8 value.toNat else leBytes 8 value.toNat ++ data.drop 8

end Sys2Proof.Machine
end

