-- ==== Sys2Proof/Machine/Parcel.lean ====
section
/-! DEFINITION. Parcels on a link (R27, R28): the header of Table 2-1, the frame that is sent, the frame that is received,
and the layouts of responses (Table 3-4) and events (Table 3-5). -/

namespace Sys2Proof.Machine

/-- The parcel types (Table 2-1). -/
inductive ParcelType
  | data
  | ack
  | nak
  | trainReq
  | trainAck
deriving DecidableEq, Repr

/-- A parcel: the meaningful fields of its header and its body (R27). -/
structure Parcel where
  kind : ParcelType
  seq : Seq := 0
  ack : Seq := 0
  fresh : Bool := false
  body : List Byte := []
deriving DecidableEq, Repr

/-- The type field of a header (Table 2-1). -/
def parcelCode : ParcelType → Nat
  | .data => 1
  | .ack => 2
  | .nak => 3
  | .trainReq => 4
  | .trainAck => 5

/-- The parcel type that a type field names; 0 and 6 to 15 name none (R28). -/
def parcelTypeOf : Nat → Option ParcelType
  | 1 => some .data
  | 2 => some .ack
  | 3 => some .nak
  | 4 => some .trainReq
  | 5 => some .trainAck
  | _ => none

/-- The header word of a parcel (Table 2-1). -/
def headerWord (parcel : Parcel) : Nat :=
  parcelCode parcel.kind * 2 ^ 28 + parcel.seq.toNat * 2 ^ 21 + parcel.ack.toNat * 2 ^ 14 + parcel.fresh.toNat * 2 ^ 13 +
    parcel.body.length

/-- The frame of a parcel: header, body and CRC (R27, R28). -/
def encodeParcel (parcel : Parcel) : List Byte :=
  let covered := leBytes 4 (headerWord parcel) ++ parcel.body
  covered ++ leBytes 4 (crc covered).toNat

/-- The body length suits the type (R27, R28). -/
def bodySuits (kind : ParcelType) (length : Nat) : Bool :=
  if kind = .data then decide (1 ≤ length ∧ length ≤ Config.maxBody) else decide (length = 0)

/-- The parcel that a received frame is, none if the frame is malformed (R28). A frame whose length is not that of its
header, body and CRC cannot be delimited, so its CRC fails (section 2.2). -/
def parseParcel (frame : List Byte) : Option Parcel :=
  let header := leNat (frame.take 4)
  let length := field header 0 13
  let covered := frame.take (4 + length)
  if frame.length = 8 + length ∧ leNat (frame.drop (4 + length)) = (crc covered).toNat then
    match parcelTypeOf (field header 28 4) with
    | some kind =>
      if bodySuits kind length then
        some { kind := kind, seq := BitVec.ofNat 7 (field header 21 7), ack := BitVec.ofNat 7 (field header 14 7),
               fresh := field header 13 1 = 1, body := covered.drop 4 }
      else none
    | none => none
  else none

/-- The frame is a malformed parcel (R28). -/
def malformed (frame : List Byte) : Bool := (parseParcel frame).isNone

/-- The command that the arrival of a frame on a port is, by its type and, for a TRAIN_REQ, its fresh bit. The fields that
R27 says are ignored on receipt are dropped here. -/
def arrival (port : PortId) (frame : List Byte) : Instr :=
  match parseParcel frame with
  | none => .malformedParcel port frame
  | some parcel =>
    match parcel.kind with
    | .data => .receiveData port parcel.seq parcel.ack parcel.body
    | .ack => .receiveAck port parcel.ack
    | .nak => .receiveNak port parcel.ack
    | .trainReq => if parcel.fresh then .receiveTrainReq port else .receiveRetrainReq port parcel.ack
    | .trainAck => .receiveTrainAck port parcel.fresh parcel.ack

/-! ### Responses and events as bodies -/

/-- The values of Table 3-6. -/
def statusCode : Status → Nat
  | .ok => 0
  | .retry => 1
  | .deviceHalted => 2
  | .badRequest => 3
  | .unbound => 4
  | .nullAperture => 5
  | .staleBinding => 6
  | .noAperture => 7
  | .deniedPort => 8
  | .deniedTier => 9
  | .deniedRights => 10
  | .badAlign => 11
  | .outOfBounds => 12
  | .held => 13
  | .holdConflict => 14
  | .holdExhausted => 15
  | .noHold => 16
  | .poisoned => 17
  | .mgmtBusy => 18
  | .mgmtRejected => 19
  | .selfTarget => 20

/-- The values of Table 3-7. -/
def detailCode : Detail → Nat
  | .badIndex => 1
  | .notFree => 2
  | .notLive => 3
  | .badDescriptor => 4
  | .badProfile => 5
  | .profileLocked => 6
  | .wrongState => 7
  | .badPort => 8
  | .noHold => 9
  | .readOnly => 10
  | .badRegister => 11
  | .notNow => 12
  | .logEmpty => 13

/-- The detail byte: 0 where there is no detail (Table 3-4). -/
def detailByte (detail : Option Detail) : Byte := BitVec.ofNat 8 ((detail.map detailCode).getD 0)

/-- The body of a response (Table 3-4, R65). -/
def responseBody (response : Response) : List Byte :=
  [0, BitVec.ofNat 8 response.tag, BitVec.ofNat 8 (statusCode response.status), detailByte response.detail,
   BitVec.ofNat 8 response.compareEqual.toNat, 0, 0, 0] ++ response.payload

/-- The device state codes (section 3.6). -/
def deviceCode : DevState → Nat
  | .reset => 0
  | .calibrating => 1
  | .unconfigured => 2
  | .initializing => 3
  | .ready => 4
  | .draining _ => 5
  | .quiescent => 6
  | .halted => 7

/-- The state code that DEVICE_STATE carries (R66). -/
def newsCode : StateNews → Nat
  | .ready => 4
  | .draining => 5
  | .halted => 7

/-- The kind byte of an event (Table 3-5). -/
def eventKind : Event → Nat
  | .holdExpired _ => 1
  | .holdBroken _ _ => 2
  | .slotsStale _ => 3
  | .protocolError _ _ => 4
  | .deviceState _ => 5
  | .logAttention => 6
  | .apertureFreed _ => 7

/-- The break reason of HOLD_BROKEN (Table 3-5). -/
def breakCode : BreakReason → Nat
  | .retire => 1
  | .management => 2
  | .drain => 3

/-- The reason of PROTOCOL_ERROR (Table 3-5). -/
def protocolCode : ProtocolReason → Nat
  | .tagReuse => 1
  | .responseLost => 2

/-- The four argument bytes of an event (Table 3-5). -/
def eventArguments : Event → List Byte
  | .holdExpired hold => [BitVec.ofNat 8 hold, 0, 0, 0]
  | .holdBroken hold reason => [BitVec.ofNat 8 hold, BitVec.ofNat 8 (breakCode reason), 0, 0]
  | .slotsStale slots => [slots, 0, 0, 0]
  | .protocolError tag reason => [BitVec.ofNat 8 tag, BitVec.ofNat 8 (protocolCode reason), 0, 0]
  | .deviceState news => [BitVec.ofNat 8 (newsCode news), 0, 0, 0]
  | .logAttention => [0, 0, 0, 0]
  | .apertureFreed index => leBytes 2 index ++ [0, 0]

/-- The body of an event with its events-lost bit (Table 3-5, R66, R162). -/
def eventBody (event : Event) (lost : Bool) : List Byte :=
  [0x10, BitVec.ofNat 8 (eventKind event), BitVec.ofNat 8 (2 * lost.toNat), 0] ++ eventArguments event

end Sys2Proof.Machine
end

