-- ==== Sys2Proof/Machine/Ops.lean ====
section
/-! DEFINITION. The named operations by which every block reports: offering a fault record (R154 to R156), the attention test
(R158), raising an event (R161), and generating a response (R48, R60, R65), with the FENCE that it may answer (R58). -/

namespace Sys2Proof.Machine

/-! ### Fault records -/

/-- The newest stored record agrees with the offer, so that it merges (R155). The class follows from the code. -/
def mergeable (u : FaultUnit) (stamp : Word) (offer : Offer) : Bool :=
  match u.log.getLast? with
  | none => false
  | some newest =>
    decide (newest.fault.code = offer.code ∧ newest.fault.port = offer.port ∧ newest.fault.aperture = offer.aperture ∧
      newest.stamp = stamp)

/-- The repeat count of the newest record incremented (R155). -/
def mergeNewest : List FaultRecord → List FaultRecord
  | [] => []
  | [newest] => [{ newest with repeats := count8 newest.repeats }]
  | older :: rest => older :: mergeNewest rest

/-- The offer stored as a new record at the tail (R154, step 3). -/
def storeRecord (u : FaultUnit) (stamp : Word) (offer : Offer) : FaultUnit :=
  { u with log := u.log ++ [{ sequence := u.nextSequence, fault := offer, stamp := stamp, repeats := 1 }],
           nextSequence := u.nextSequence + 1 }

/-- The log after an offer, and whether the attention test follows: masked out, merged, stored, or dropped from a full log
(R154, R156). -/
def logOffer (u : FaultUnit) (stamp : Word) (offer : Offer) : FaultUnit × Bool :=
  if !inMask u.classMask offer.code then (u, false)
  else if mergeable u stamp offer then ({ u with log := mergeNewest u.log }, false)
  else if u.log.length < Config.logDepth then (storeRecord u stamp offer, true)
  else ({ u with overflow := count16 u.overflow, episode := true }, !u.episode)

/-! ### Events -/

/-- An event placed at the tail of a port's event queue (R161, step 3). -/
def State.placeEvent (s : State) (p : PortId) (event : Event) : State :=
  (s.modPort p fun port => { port with events := port.events ++ [{ placed := s.order, event := event }] }).nextPlace

/-- The EVENT_LOST record of a port (R161). -/
def eventLost (p : PortId) : Offer := { code := .eventLost, port := some p }

/-- Events of a port are dropped: its link is DOWN or FAILED (R161, step 1). -/
def linkDead (link : Link) : Bool := decide (link.state = .down ∨ link.state = .failed)

/-- Raising an event (R161), with the offer of the EVENT_LOST record left to `lost`. -/
def State.raiseWith (lost : State → State) (s : State) (p : PortId) (event : Event) : State :=
  if linkDead (s.link p) then s
  else if (s.port p).events.length < Config.eventDepth then s.placeEvent p event
  else lost (s.modPort p fun port => { port with eventsLost := true })

/-- LOG_ATTENTION raised for every port whose mask includes it (R158). The attention flag is set by then, so the EVENT_LOST
record of a dropped LOG_ATTENTION raises nothing further (R161). -/
def State.raiseAttention (s : State) : State :=
  allPorts.foldl (fun (s : State) (p : PortId) =>
    if (s.port p).config.maskAttention then
      s.raiseWith (fun s => s.modFaults fun u => (logOffer u s.tickCount (eventLost p)).1) p .logAttention
    else s) s

/-- The attention test (R158). -/
def State.attentionTest (s : State) : State :=
  if s.faults.condition then
    if s.faults.attention then s else (s.modFaults fun u => { u with attention := true }).raiseAttention
  else if s.faults.attention then s.modFaults fun u => { u with attention := false }
  else s

/-- A fault record offered (R154), with the attention test where it follows. -/
def State.offer (s : State) (fault : Offer) : State :=
  let after := s.modFaults fun u => (logOffer u s.tickCount fault).1
  if (logOffer s.faults s.tickCount fault).2 then after.attentionTest else after

/-- Several records offered in order. -/
def State.offerAll (s : State) (faults : List Offer) : State := faults.foldl State.offer s

/-- An event raised for a port (R161). -/
def State.raise (s : State) (p : PortId) (event : Event) : State :=
  s.raiseWith (fun s => s.offer (eventLost p)) p event

/-- DEVICE_STATE raised for every port (R16). -/
def State.raiseDeviceState (s : State) (news : StateNews) : State :=
  allPorts.foldl (fun s p => s.raise p (.deviceState news)) s

/-- APERTURE_FREED raised for the ports of a port mask whose event mask includes it (R79, R160). -/
def State.raiseFreed (s : State) (ports : BitVec 4) (index : ApIndex) : State :=
  allPorts.foldl (fun (s : State) (p : PortId) =>
    if ports.getLsbD p.val && (s.port p).config.maskFreed then s.raise p (.apertureFreed index) else s) s

/-! ### Responses -/

/-- A response generated: its tag becomes FREE, and it is placed at the tail of the egress queue or lost (R48, R60). -/
def State.respond (s : State) (p : PortId) (response : Response) : State :=
  let freed := s.setTag p response.tag none
  if (s.port p).egress.length < Config.egressDepth then
    (freed.modPort p fun port =>
      { port with egress := port.egress ++ [{ placed := s.order, response := response }] }).nextPlace
  else
    (freed.offer { code := .responseLost, port := some p, tag := some response.tag }).raise p
      (.protocolError response.tag .responseLost)

/-- The body at the head leaves the FIFO and the head condition returns to NONE (R62, R64). -/
def State.popHead (s : State) (p : PortId) : State :=
  s.modPort p fun port => { port with fifo := port.fifo.tail, head := .none, attemptDue := false }

/-- The body at the head is answered and leaves the FIFO (R62). -/
def State.answer (s : State) (p : PortId) (response : Response) : State := (s.popHead p).respond p response

/-- The waiting FENCE of a port is due its answer: its own tag is the port's only OUTSTANDING tag (R58). -/
def fenceDue (port : Port) : Bool :=
  match port.head, port.fifo with
  | .waitingFence, body :: _ => onlyOutstanding port (headerOf body).tag
  | _, _ => false

/-- A waiting FENCE answered OK where its answer is due (R58). -/
def State.fenceTest (s : State) (p : PortId) : State :=
  if fenceDue (s.port p) then s.answer p { tag := (headerOf ((s.port p).fifo.headD [])).tag, status := .ok } else s

/-! ### What an event prompts -/

/-- A request that waits for bank queue space is due a new attempt (R64). -/
def promptPort (port : Port) : Port := if port.head = .waitingSpace then { port with attemptDue := true } else port

/-- Every request that waits for bank queue space makes a new attempt (R64). -/
def State.promptAttempts (s : State) : State := { s with ports := s.ports.map promptPort }

/-- A decision point is due for a bank that is IDLE (R110). -/
def dueIfIdle (bank : Bank) : Bank := if bank.state = .idle then { bank with decisionDue := true } else bank

end Sys2Proof.Machine
end

