-- ==== Sys2Proof/Machine/LinkOps.lean ====
section
/-! DEFINITION. The operations of a link engine: the entries into its states (R29, R30, R33), the completion of training (R31,
R34), acknowledgement (R39), replay (R43, R44) and the choice of the parcel to send (R46, R48). -/

namespace Sys2Proof.Machine

/-! ### Link states -/

/-- Beginning fresh training (R30). -/
def beginFresh (link : Link) : Link :=
  { link with
    state := .training, fresh := true, sendSeq := 0, recvSeq := 0, replay := [], retransmit := none, nakPending := false,
    ackOwed := false, requestAnswered := false, answerReceived := false, replayAttempts := 0, trainAttempts := 0,
    ackTimer := 0, trainTimer := 0, hostExpected := none, trainReqWaiting := true, trainAckWaiting := false,
    nakWaiting := false }

/-- Entry to DOWN or FAILED (R29, R46): what waited to be sent is discarded and a retransmission ends. -/
def stopLink (state : LinkState) (link : Link) : Link :=
  { link with
    state := state, retransmit := none, ackOwed := false, trainAttempts := 0, trainReqWaiting := false,
    trainAckWaiting := false, nakWaiting := false }

/-- Entry to RETRAIN, steps 1 to 4 and 6 (R33). -/
def beginRetrain (link : Link) : Link :=
  { link with
    state := .retrain, fresh := false, retransmit := none, nakPending := false, ackOwed := false,
    requestAnswered := false, answerReceived := false, ackTimer := 0, trainTimer := 0, trainAttempts := 1,
    hostExpected := none, retrains := count16 link.retrains, trainReqWaiting := true, trainAckWaiting := false,
    nakWaiting := false }

/-- Entry to RETRAIN (R33) with the record of its cause. -/
def State.enterRetrain (s : State) (p : PortId) (cause : FaultCode) : State :=
  (s.modLink p beginRetrain).offer { code := cause, port := some p }

/-- Every enabled port whose link is DOWN begins fresh training (R11, R18). -/
def State.trainEnabled (s : State) : State :=
  allPorts.foldl (fun (s : State) (p : PortId) =>
    if (s.port p).config.enabled && decide ((s.link p).state = .down) then s.modLink p beginFresh else s) s

/-! ### Acknowledgement and replay -/

/-- The oldest unacknowledged sequence (R26). -/
def oldestUnacked (link : Link) : Seq := (link.replay.head?.map SentData.seq).getD link.sendSeq

/-- The window test of R39. -/
def ackInWindow (link : Link) (ack : Seq) : Bool :=
  decide (distance (oldestUnacked link) ack ≤ distance (oldestUnacked link) link.sendSeq)

/-- The retransmission point after parcels have been removed: where it named one of them it moves to the first parcel
remaining, or becomes absent (R39). -/
def movePoint (remaining : List SentData) (point : Option Seq) : Option Seq :=
  match point with
  | none => none
  | some seq => if remaining.any (fun sent => sent.seq = seq) then some seq else remaining.head?.map SentData.seq

/-- The acknowledged parcels removed (R39), for an ack that passed the window test. -/
def removeAcked (link : Link) (ack : Seq) : Link :=
  let count := distance (oldestUnacked link) ack
  if count = 0 then link
  else
    { link with replay := link.replay.drop count, replayAttempts := 0, ackTimer := 0,
                retransmit := movePoint (link.replay.drop count) link.retransmit }

/-- The ack field processed: the parcels removed, or a BAD_ACK record offered (R39). -/
def State.processAck (s : State) (p : PortId) (ack : Seq) : State :=
  if ackInWindow (s.link p) ack then s.modLink p fun link => removeAcked link ack
  else s.offer { code := .badAck, port := some p }

/-- A retransmission begins at the first parcel of the replay buffer (R43). -/
def beginRetransmit (link : Link) : Link := { link with retransmit := link.replay.head?.map SentData.seq }

/-- A replay performed (R44). -/
def performReplay (link : Link) : Link :=
  beginRetransmit
    { link with replayAttempts := link.replayAttempts + 1, replays := count16 link.replays, ackTimer := 0 }

/-- A replay falls due: it is performed, or retraining takes its place (R44). -/
def State.replayDue (s : State) (p : PortId) : State :=
  if (s.link p).replayAttempts < Config.replayLimit then s.modLink p performReplay
  else s.enterRetrain p .retrainLocal

/-- A NAK falls due (R41): it is queued unless the NAK-pending flag is set. -/
def queueNak (link : Link) : Link :=
  if link.nakPending then link else { link with nakPending := true, nakWaiting := true }

/-! ### Training -/

/-- The link becomes ACTIVE from fresh training (R31, R45, R46). -/
def completeFresh (link : Link) : Link :=
  { link with
    state := .active, requestAnswered := false, answerReceived := false, trainTimer := 0, ackTimer := 0,
    trainReqWaiting := false }

/-- The link becomes ACTIVE from retraining: steps 1, 3 and 4 of R34. -/
def completeRetrain (link : Link) : Link :=
  beginRetransmit
    { link with
      state := .active, replayAttempts := 0, trainAttempts := 0, ackTimer := 0, trainTimer := 0,
      requestAnswered := false, answerReceived := false, hostExpected := none, trainReqWaiting := false }

/-- Training completes where both handshake flags are set (R31, R34). At the end of retraining the host expected sequence is
applied as an acknowledgement. -/
def State.trainingTest (s : State) (p : PortId) : State :=
  let link := s.link p
  if link.requestAnswered && link.answerReceived then
    match link.state with
    | .training => s.modLink p completeFresh
    | .retrain =>
      match link.hostExpected with
      | some ack =>
        if ackInWindow link ack then s.modLink p fun link => completeRetrain (removeAcked link ack)
        else (s.modLink p completeRetrain).offer { code := .badAck, port := some p }
      | none => s.modLink p completeRetrain
    | _ => s
  else s

/-- A host TRAIN_REQ answered: a TRAIN_ACK is queued and the request-answered flag set (R31, R34). -/
def answerRequest (link : Link) : Link := { link with trainAckWaiting := true, requestAnswered := true }

/-- A TRAIN_REQ with fresh 1 accepted in TRAINING (R31). -/
def State.acceptFreshRequest (s : State) (p : PortId) : State := (s.modLink p answerRequest).trainingTest p

/-- A TRAIN_REQ with fresh 0 accepted in RETRAIN (R34). -/
def State.acceptRetrainRequest (s : State) (p : PortId) (ack : Seq) : State :=
  (s.modLink p fun link => { answerRequest link with hostExpected := some ack }).trainingTest p

/-! ### Sending -/

/-- The kinds of parcel in the order of precedence of R46. -/
inductive SendKind
  | trainAck
  | trainReq
  | nak
  | retransmit
  | newData
  | ack
deriving DecidableEq, Repr

/-- A new DATA parcel may be sent: a body waits, the replay buffer has room and no retransmission is in progress (R42). -/
def newDataReady (port : Port) : Bool :=
  decide (port.link.retransmit = none ∧ port.link.replay.length < Config.replayDepth) &&
    (!port.egress.isEmpty || !port.events.isEmpty)

/-- The parcel that the engine sends next (R46). -/
def nextSend (port : Port) : Option SendKind :=
  match port.link.state with
  | .training | .retrain =>
    if port.link.trainAckWaiting then some .trainAck
    else if port.link.trainReqWaiting then some .trainReq
    else none
  | .active =>
    if port.link.trainAckWaiting then some .trainAck
    else if port.link.nakWaiting then some .nak
    else if port.link.retransmit ≠ none then some .retransmit
    else if newDataReady port then some .newData
    else if port.link.ackOwed then some .ack
    else none
  | .down | .failed => none

/-- The event queue's first event was placed before the egress queue's first response (R48). -/
def eventFirst (port : Port) : Bool :=
  match port.events, port.egress with
  | [], _ => false
  | _ :: _, [] => true
  | event :: _, response :: _ => decide (event.placed < response.placed)

/-- The body of the next new DATA parcel (R48, R66, R162). -/
def nextBody (port : Port) : List Byte :=
  if eventFirst port then
    match port.events with
    | [] => []
    | event :: _ => eventBody event.event port.eventsLost
  else
    match port.egress with
    | [] => []
    | response :: _ => responseBody response.response

/-- The queues after the next body has left (R42, R48); an event's delivery clears the events-lost flag (R162). -/
def takeBody (port : Port) : Port :=
  if eventFirst port then { port with events := port.events.tail, eventsLost := false }
  else { port with egress := port.egress.tail }

/-- The parcel at the retransmission point and the point after it (R43). -/
def pointParcel (link : Link) : Option SentData := link.replay.find? fun sent => link.retransmit = some sent.seq

/-- The retransmission point after the parcel with this sequence number has been sent (R43). -/
def advancePoint (link : Link) (seq : Seq) : Option Seq :=
  if link.replay.any (fun sent => sent.seq = seq + 1) then some (seq + 1) else none

/-- A new DATA parcel sent: its sequence number used, its copy kept (R42). -/
def keepSent (body : List Byte) (link : Link) : Link :=
  { link with
    sendSeq := link.sendSeq + 1, replay := link.replay ++ [{ seq := link.sendSeq, body := body }],
    ackTimer := if link.replay.isEmpty then 0 else link.ackTimer, ackOwed := false }

/-- A frame leaves on the lanes of a port. -/
def sendFrame (parcel : Parcel) (link : Link) : Link := { link with sent := some (encodeParcel parcel) }

/-- The ack field of a training parcel: the receive sequence, or 0 in fresh training (R27). -/
def trainingAck (link : Link) : Seq := if link.fresh then 0 else link.recvSeq

/-- A TRAIN_ACK sent (R27, R46). -/
def sendTrainAckLink (link : Link) : Link :=
  sendFrame { kind := .trainAck, ack := trainingAck link, fresh := link.fresh } { link with trainAckWaiting := false }

/-- A TRAIN_REQ sent (R27, R46). -/
def sendTrainReqLink (link : Link) : Link :=
  sendFrame { kind := .trainReq, ack := trainingAck link, fresh := link.fresh } { link with trainReqWaiting := false }

/-- A NAK sent with the receive sequence (R27, R41). -/
def sendNakLink (link : Link) : Link :=
  sendFrame { kind := .nak, ack := link.recvSeq } { link with nakWaiting := false, ackOwed := false }

/-- An ACK sent (R27, R41). -/
def sendAckLink (link : Link) : Link := sendFrame { kind := .ack, ack := link.recvSeq } { link with ackOwed := false }

/-- The parcel at the retransmission point sent again, with its own sequence number and the current ack (R27, R43). -/
def retransmitLink (link : Link) : Link :=
  match pointParcel link with
  | none => { link with retransmit := none }
  | some sent =>
    sendFrame { kind := .data, seq := sent.seq, ack := link.recvSeq, body := sent.body }
      { link with retransmit := advancePoint link sent.seq, ackOwed := false }

/-- A new DATA parcel with this body sent (R27, R42). -/
def newDataLink (body : List Byte) (link : Link) : Link :=
  sendFrame { kind := .data, seq := link.sendSeq, ack := link.recvSeq, body := body } (keepSent body link)

/-- A send event of port `p`: the effects of sending the parcel kind (R47). -/
def State.sendParcel (s : State) (p : PortId) (kind : SendKind) : State :=
  match kind with
  | .trainAck => s.modLink p sendTrainAckLink
  | .trainReq => s.modLink p sendTrainReqLink
  | .nak => s.modLink p sendNakLink
  | .retransmit => s.modLink p retransmitLink
  | .newData => (s.modPort p takeBody).modLink p (newDataLink (nextBody (s.port p)))
  | .ack => s.modLink p sendAckLink

end Sys2Proof.Machine
end

