-- ==== Sys2Proof/Machine/HoldOps.lean ====
section
/-! DEFINITION. The hold table: the hold test (R132), the conditions of a grant (R130), and the end of a hold with the re-test of
the entries parked on it (R108, R134). -/

namespace Sys2Proof.Machine

/-- A hold excludes a write of port `p` to a unit range: its owner is another port and the ranges share a unit (R132). -/
def excludes (p : PortId) (first : UnitAddr) (length : Nat) (hold : Hold) : Bool :=
  decide (hold.owner ≠ p) && overlaps hold.first hold.span first length

/-- The ACTIVE hold of lowest id that excludes a write, none if there is no candidate (R132, R134). -/
def State.parkingHold (s : State) (p : PortId) (first : UnitAddr) (length : Nat) : Option HoldId :=
  allHolds.find? fun h => (s.hold h).any (excludes p first length)

/-- The number of ACTIVE holds (R127). -/
def State.activeHolds (s : State) : Nat := (s.holds.toList.filter Option.isSome).length

/-- The number of ACTIVE holds that a port owns (R130). -/
def State.ownedHolds (s : State) (p : PortId) : Nat :=
  (s.holds.toList.filter fun entry => entry.any fun hold => decide (hold.owner = p)).length

/-- Step 6 of HOLD_OPEN: the table is full or the port owns four holds (R130). -/
def State.holdsExhausted (s : State) (p : PortId) : Bool :=
  decide (16 ≤ s.activeHolds ∨ Config.holdsPerPort ≤ s.ownedHolds p)

/-- Step 7 of HOLD_OPEN: the range shares a unit with an ACTIVE hold or with a write-type entry of another port (R130). -/
def State.holdConflicts (s : State) (p : PortId) (first : UnitAddr) (span : Nat) : Bool :=
  (s.holds.toList.any fun entry => entry.any fun hold => overlaps hold.first hold.span first span) ||
    s.banks.toList.any fun bank => bank.queue.any fun entry =>
      decide (entry.port ≠ p) && entryWrites entry.op && overlaps entry.unit entry.length first span

/-- The lowest-numbered FREE hold entry (R131). -/
def State.freeHold (s : State) : Option HoldId := allHolds.find? fun h => (s.hold h).isNone

/-- An entry parked on hold `h` re-tested against the ACTIVE holds (R134, step 3). -/
def State.retestEntry (s : State) (h : HoldId) (entry : Entry) : Entry :=
  if entry.parkedOn = some h then { entry with parkedOn := s.parkingHold entry.port entry.unit entry.length } else entry

/-- The number of entries that the re-test of hold `h` leaves unparked. -/
def State.releasedBy (s : State) (h : HoldId) (queue : List Entry) : Nat :=
  (queue.filter fun entry => decide (entry.parkedOn = some h ∧ (s.retestEntry h entry).parkedOn = none)).length

/-- A bank after the re-test of hold `h`: the parked count falls by the entries released, and an IDLE bank that gained one
has a decision point (R108, R110). -/
def State.retestBank (s : State) (h : HoldId) (bank : Bank) : Bank :=
  let released := s.releasedBy h bank.queue
  let after := { bank with queue := bank.queue.map (s.retestEntry h), parked := bank.parked - released }
  if released = 0 then after else dueIfIdle after

/-- Every entry parked on hold `h` re-tested (R134, step 3). -/
def State.retest (s : State) (h : HoldId) : State := s.mapBanks (s.retestBank h)

/-- The causes that end a hold (R134). -/
inductive HoldEnd
  | release
  | expiry
  | broken (reason : BreakReason)
  | teardown
deriving DecidableEq, Repr

/-- The event and the record of the cause (R134, step 2). -/
def State.reportHoldEnd (s : State) (h : HoldId) (hold : Hold) (cause : HoldEnd) : State :=
  match cause with
  | .release | .teardown => s
  | .broken reason => s.raise hold.owner (.holdBroken h reason)
  | .expiry =>
    (s.raise hold.owner (.holdExpired h)).offer
      { code := .holdExpired, port := some hold.owner, aperture := some hold.aperture, unit := some hold.first }

/-- The end of hold `h` (R134); a FREE hold has nothing to end. -/
def State.endHold (s : State) (h : HoldId) (cause : HoldEnd) : State :=
  match s.hold h with
  | none => s
  | some hold => ((s.setHold h none).reportHoldEnd h hold cause).retest h

/-- The ACTIVE holds that meet a condition end in ascending order of id (R134). -/
def State.endHolds (s : State) (cause : HoldEnd) (which : Hold → Bool) : State :=
  allHolds.foldl (fun s h => if (s.hold h).any which then s.endHold h cause else s) s

end Sys2Proof.Machine
end

