-- ==== Sys2Proof/Machine/TableOps.lean ====
section
/-! DEFINITION. Binding slots and the aperture table: slot changes with the binding counts (R81, R88), the staling of slots (R76,
R78, R93), the in-flight counts (R82) and the FREE transition (R79). -/

namespace Sys2Proof.Machine

/-! ### Slots -/

/-- A slot changed, with the binding counts of the indices concerned (R81). -/
def State.setSlot (s : State) (p : PortId) (k : SlotId) (new : Slot) : State :=
  let counted :=
    match slotIndex new with
    | some index => s.modEntry index fun entry => { entry with bindings := entry.bindings + 1 }
    | none => s
  let dropped :=
    match slotIndex (s.slot p k) with
    | some index => counted.modEntry index fun entry => { entry with bindings := entry.bindings - 1 }
    | none => counted
  dropped.modPort p fun port => { port with slots := port.slots.set k new }

/-- A BOUND slot becomes STALE and keeps its copy; any other slot is not touched (R88). -/
def staled : Slot → Slot
  | .bound copy => .stale copy
  | other => other

/-- The slot is BOUND to a copy that meets a condition. -/
def boundTo (which : SlotCopy → Bool) : Slot → Bool
  | .bound copy => which copy
  | _ => false

/-- The set of the slots of a port that meet a condition, bit i for Si (Table 3-5). -/
def slotSet (slots : Vector Slot 8) (which : Slot → Bool) : BitVec 8 :=
  BitVec.ofNat 8 (allSlots.foldl (fun sum k => if which slots[k] then sum + 2 ^ k.val else sum) 0)

/-- The slots of port `p` that are BOUND to a copy that meets a condition become STALE. -/
def State.stalePort (s : State) (p : PortId) (which : SlotCopy → Bool) : State :=
  s.modPort p fun port =>
    { port with slots := port.slots.map fun slot => if boundTo which slot then staled slot else slot }

/-- SLOTS_STALE raised for a port if the set is not empty (R76, R78, R93). -/
def State.raiseStale (s : State) (p : PortId) (slots : BitVec 8) : State :=
  if slots = 0 then s else s.raise p (.slotsStale slots)

/-- The slots of one port staled, and SLOTS_STALE raised with their set (R93). -/
def State.stalePortSlots (s : State) (p : PortId) (which : SlotCopy → Bool) : State :=
  (s.stalePort p which).raiseStale p (slotSet (s.port p).slots (boundTo which))

/-- SLOTS_STALE raised, in ascending port order, for the slots of `before` that were BOUND to a copy that meets a condition
(R76, R78). -/
def State.raiseStaled (s before : State) (which : PortId → SlotCopy → Bool) : State :=
  allPorts.foldl (fun (s : State) (p : PortId) =>
    s.raiseStale p (slotSet (before.port p).slots (boundTo (which p)))) s

/-- The slots of every port changed alike, without a change of any binding count. -/
def State.walkSlots (s : State) (change : PortId → Slot → Slot) : State :=
  allPorts.foldl (fun (s : State) (p : PortId) =>
    s.modPort p fun port => { port with slots := port.slots.map (change p) }) s

/-- The slots in the order of a walk: P0 S0 to S7, then P1, P2 and P3 (R76, R78). -/
def walkOrder : List (PortId × SlotId) := allPorts.flatMap fun p => allSlots.map fun k => (p, k)

/-- The walk of APERTURE_RETIRE (R78, step 2): each BOUND slot that names the index becomes STALE. Each looks up the entry,
and a lookup that fails stops the walk there (R85): then the answer is false. -/
def State.retireWalk (s : State) (i : ApIndex) : List (PortId × SlotId) → State × Bool
  | [] => (s, true)
  | (p, k) :: rest =>
    if boundTo (fun copy => decide (handleIndex copy.handle = i)) (s.slot p k) then
      if (s.entry i).parityBad then (s, false)
      else (s.modPort p fun port => { port with slots := port.slots.set k (staled port.slots[k]) }).retireWalk i rest
    else s.retireWalk i rest

/-! ### Entries -/

/-- The entry as the FREE transition leaves it, its counts and its parity included (R79, steps 2 and 3). -/
def freedEntry (entry : ApEntry) : ApEntry :=
  { entry with
    state := .free, generation := entry.generation + 1, base := 0, limit := 0, granularity := .unit, rights := noRights,
    accessTier := 0, portMask := 0, parityBad := false }

/-- The FREE transition with its APERTURE_FREED events (R79). -/
def State.freeEntry (s : State) (i : ApIndex) : State := (s.modEntry i freedEntry).raiseFreed (s.entry i).portMask i

/-- The in-flight count of an index decremented (R82). -/
def State.dropInFlight (s : State) (i : ApIndex) : State :=
  s.modEntry i fun entry => { entry with inFlight := entry.inFlight - 1 }

/-- The TABLE_PARITY record of an index (R84). -/
def tableParity (i : ApIndex) : Offer := { code := .tableParity, aperture := some i }

end Sys2Proof.Machine
end

