-- ==== Sys2Proof/Machine/DeviceOps.lean ====
section
/-! DEFINITION. The device states and the resets: entry to READY, DRAINING, HALTED and INITIALIZING (R10 to R18), a failed lookup of
the aperture table (R84 to R86), teardown (R20 to R22) and the completion of a drain (R14). -/

namespace Sys2Proof.Machine

/-! ### READY and HALTED -/

/-- Entry to READY: enabled ports whose link is DOWN train, then DEVICE_STATE is raised (R11, R16). -/
def State.enterReady (s : State) : State := (s.setDevice .ready).trainEnabled.raiseDeviceState .ready

/-- Entry to HALTED with the record of its cause (R18). A LOG_ATTENTION that the record raises at once (step 2, R158) goes before
DEVICE_STATE(HALTED) (step 4), although R163 says that DEVICE_STATE(HALTED) is first among the events that HALTED raises: DEDUCED,
notes/assumptions/25.md. -/
def State.enterHalted (s : State) (cause : Offer) : State :=
  ((s.setDevice .halted).offer cause).trainEnabled.raiseDeviceState .halted

/-- A lookup that fails the parity check: the device enters HALTED, or in HALTED the record is offered alone (R84, R86). -/
def State.parityFail (s : State) (i : ApIndex) : State :=
  if s.device = .halted then s.offer (tableParity i) else s.enterHalted (tableParity i)

/-- A lookup that fails within a teardown: outside HALTED the failure waits for the end of the event (R85). -/
def State.parityDefer (s : State) (i : ApIndex) : State :=
  if s.device = .halted then s.offer (tableParity i) else { s with parityPending := s.parityPending ++ [i] }

/-- The end of an event: the lookups that failed within its teardowns take their effect (R85). -/
def State.finishParity (s : State) : State := s.parityPending.foldl State.parityFail { s with parityPending := [] }

/-- The lookup of an entry whose in-flight count has reached 0 (R82): a failed check is handled by `failed`, a RETIRING
entry becomes FREE. -/
def State.lookupDrained (failed : State → ApIndex → State) (s : State) (i : ApIndex) : State :=
  if (s.entry i).parityBad then failed s i
  else if (s.entry i).state = .retiring then s.freeEntry i
  else s

/-! ### Teardown -/

/-- The causes of a teardown (R22). -/
inductive Teardown
  | linkFailure
  | hostReset
  | disable
  | quiesce
  | portReset
  | datapathReset
deriving DecidableEq, Repr

/-- The link of a torn-down port (R20, step 1; R22, R24, R29). -/
def tornLink (cause : Teardown) (enabled : Bool) (link : Link) : Link :=
  match cause with
  | .linkFailure => stopLink .failed link
  | .hostReset => beginFresh link
  | .disable => if link.state = .failed then link else stopLink .down link
  | .quiesce | .portReset => stopLink .down link
  | .datapathReset =>
    if link.state = .failed then link else if enabled then beginFresh link else stopLink .down link

/-- The entry is in service in its bank. -/
def inService (bank : Bank) (entry : Entry) : Bool :=
  match bank.state with
  | .serving (.entry position _ _) => decide (entry.position = position)
  | _ => false

/-- The entry leaves its queue in a teardown of port `p`: it is of that port and not in service (R20, step 3). -/
def leavesWith (p : PortId) (bank : Bank) (entry : Entry) : Bool := decide (entry.port = p) && !inService bank entry

/-- The entries that a teardown of port `p` removes, in the order B0 to B7 and the oldest first. -/
def State.leavingEntries (s : State) (p : PortId) : List Entry :=
  allBanks.flatMap fun b => (s.bank b).queue.filter (leavesWith p (s.bank b))

/-- A bank after steps 3 and 4 of R20: the port's entries removed, its entry in service marked discarded, and a decision
point due where an IDLE bank lost an entry (R110). -/
def tornBank (p : PortId) (bank : Bank) : Bank :=
  let leaving := bank.queue.filter (leavesWith p bank)
  let kept := bank.queue.filter fun entry => !leavesWith p bank entry
  let after :=
    { bank with
      queue := kept.map fun entry => if entry.port = p then { entry with discarded := true } else entry,
      parked := bank.parked - (leaving.filter fun entry => entry.parkedOn.isSome).length }
  if leaving.isEmpty then after else dueIfIdle after

/-- The in-flight counts lowered for removed entries, and the indices whose count reached 0 thereby, in order (R20). -/
def State.dropEntries (s : State) : List Entry → State × List ApIndex
  | [] => (s, [])
  | entry :: rest =>
    let after := s.dropInFlight entry.aperture
    let (final, zeros) := after.dropEntries rest
    (final, if (after.entry entry.aperture).inFlight = 0 then entry.aperture :: zeros else zeros)

/-- The SPI command slot moves from QUEUED to EXECUTING when its command is at the head (R164, R166). -/
def promoteSpi (m : Mgmt) : Mgmt :=
  match m.spiSlot, m.queue with
  | .queued, command :: _ => if command.source = .spi then { m with spiSlot := .executing } else m
  | _, _ => m

/-- The queued command came from port `p`. -/
def fromPort (p : PortId) (command : QueuedCommand) : Bool :=
  match command.source with
  | .spi => false
  | .port source _ => decide (source = p)

/-- The queued commands of a port removed (R20, step 8; R167). -/
def removeCommands (p : PortId) (m : Mgmt) : Mgmt :=
  promoteSpi { m with queue := m.queue.filter fun command => !fromPort p command }

/-- Steps 2 and 5 of R20 on the front end and the event queue of the port. -/
def emptyPort (port : Port) : Port :=
  { port with
    fifo := [], head := .none, attemptDue := false, tags := Vector.replicate 32 none, egress := [], events := [],
    eventsLost := false }

/-- The replay buffer emptied: a retransmission ends and the ack timer stops at 0 (R20, step 5; R45). -/
def emptyReplay (link : Link) : Link := { link with replay := [], retransmit := none, ackTimer := 0 }

/-- The record of a teardown (R20, step 9). -/
def State.teardownRecord (s : State) (p : PortId) (cause : Teardown) : State :=
  match cause with
  | .linkFailure => s.offer { code := .linkFailed, port := some p }
  | .hostReset => s.offer { code := .hostReset, port := some p }
  | _ => s

/-- Steps 1 to 5 of a teardown, with the indices whose in-flight count reached 0 (R20). -/
def State.teardownQueues (s : State) (p : PortId) (cause : Teardown) : State × List ApIndex :=
  let linked := s.modLink p (tornLink cause (s.port p).config.enabled)
  let leaving := linked.leavingEntries p
  let (dropped, zeros) := (linked.mapBanks (tornBank p)).dropEntries leaving
  let emptied :=
    (dropped.modPort p emptyPort).modLink p emptyReplay
  (if leaving.isEmpty then emptied else emptied.promptAttempts, zeros)

/-- Teardown of port `p` (R20), with the lookups that follow step 9 and without the drain completion test. -/
def State.teardownCore (s : State) (p : PortId) (cause : Teardown) : State :=
  let (emptied, zeros) := s.teardownQueues p cause
  let unbound := allSlots.foldl (fun (s : State) (k : SlotId) => s.setSlot p k .empty) emptied
  let freed := unbound.endHolds .teardown fun hold => decide (hold.owner = p)
  let recorded := (freed.modMgmt (removeCommands p)).teardownRecord p cause
  zeros.foldl (State.lookupDrained State.parityDefer) recorded

/-! ### Draining -/

/-- The completion of a drain (R14): a pending profile becomes active, or every port is torn down and the device is
QUIESCENT. -/
def State.completeDrain (s : State) : State :=
  match s.device with
  | .draining (.profile next) => { s with active := next }.enterReady
  | .draining .quiesce =>
    allPorts.foldl (fun (s : State) (p : PortId) => s.teardownCore p .quiesce) (s.setDevice .quiescent)
  | _ => s

/-- The drain completion test applied (R14). -/
def State.drainTest (s : State) : State := if s.device.isDraining && s.drainDone then s.completeDrain else s

/-- The drain completion test as the end of an event of its own, with the lookups that a quiesce teardown deferred (R14,
R85). -/
def State.drainEvent (s : State) : State :=
  if s.device.isDraining && s.drainDone then s.completeDrain.finishParity else s

/-- Teardown of port `p` with the drain completion test after it (R20). -/
def State.teardown (s : State) (p : PortId) (cause : Teardown) : State := (s.teardownCore p cause).drainTest

/-- Entry to DRAINING (R12). No link trains here: R29 and Table 2-2 name the entry as a case in which an enabled DOWN link
does, while R12 lists no such step and R13 says that links are not affected. That the model follows R12 is DEDUCED
(notes/assumptions/21.md). -/
def State.enterDraining (s : State) (reason : Drain) : State :=
  (((s.setDevice (.draining reason)).endHolds (.broken .drain) fun _ => true).raiseDeviceState .draining).drainTest

/-! ### INITIALIZING -/

/-- A bank at entry to INITIALIZING (R10, R110, R122). -/
def initializingBank (bank : Bank) : Bank :=
  dueIfIdle { bank with owed := 0, sinceRefresh := 0, owedMax := 0, clearPosition := 0 }

/-- Entry to INITIALIZING (R10). -/
def State.enterInitializing (s : State) : State := (s.setDevice .initializing).mapBanks initializingBank

end Sys2Proof.Machine
end

