-- ==== Sys2Proof/Machine/Sparse.lean ====
section
/-! DEFINITION. A memory as a list of address and value pairs in one canonical form: addresses strictly rising, and no pair
whose value is what an unlisted address reads as. The data bytes of the array and the health of its units are held so. -/

namespace Sys2Proof.Machine

/-- What a memory reads at an address; `blank` is what an unlisted address reads as. -/
def sparseRead {α : Type} (blank : α) : List (Nat × α) → Nat → α
  | [], _ => blank
  | (key, value) :: rest, address => if key = address then value else sparseRead blank rest address

/-- A memory written at an address, in canonical form again. -/
def sparseWrite {α : Type} [DecidableEq α] (blank : α) : List (Nat × α) → Nat → α → List (Nat × α)
  | [], address, new => if new = blank then [] else [(address, new)]
  | (key, value) :: rest, address, new =>
    if address < key then (if new = blank then (key, value) :: rest else (address, new) :: (key, value) :: rest)
    else if address = key then (if new = blank then rest else (address, new) :: rest)
    else (key, value) :: sparseWrite blank rest address new

/-- A memory with every address of a set blank again. -/
def sparseClear {α : Type} (memory : List (Nat × α)) (cleared : Nat → Bool) : List (Nat × α) :=
  memory.filter fun cell => !cleared cell.1

/-- The canonical form. -/
abbrev sparseWf {α : Type} (blank : α) (memory : List (Nat × α)) : Prop :=
  memory.Pairwise (fun earlier later => earlier.1 < later.1) ∧ ∀ cell ∈ memory, cell.2 ≠ blank

/-- Bytes written to consecutive addresses of a data memory; an unlisted byte reads as 0 (notes/assumptions/1.md). -/
def writeBytes (memory : List Host.Cell) (address : Nat) : List Byte → List Host.Cell
  | [] => memory
  | byte :: rest => writeBytes (sparseWrite 0 memory address byte) (address + 1) rest

/-- The bytes at consecutive addresses of a data memory. -/
def readBytes (memory : List Host.Cell) (address : Nat) : (count : Nat) → List Byte
  | 0 => []
  | count + 1 => sparseRead 0 memory address :: readBytes memory (address + 1) count

end Sys2Proof.Machine
end

