-- ==== Sys2Proof/Machine/BankOps.lean ====
section
/-! DEFINITION. The bank engines: eligibility (R112), the decision procedure (R111), the services with unit health and the ECC
injection arm (R113 to R118, R122, R125), and completion (R119, R146). -/

namespace Sys2Proof.Machine

/-! ### Decision -/

/-- Two queue entries overlap (R105). -/
def entriesOverlap (first second : Entry) : Bool := overlaps first.unit first.length second.unit second.length

/-- The first eligible entry of a queue, behind entries admitted before it (R112). -/
def firstEligible (older : List Entry) : List Entry → Option Entry
  | [] => none
  | entry :: rest =>
    if entry.parkedOn = none ∧ !older.any (entriesOverlap entry) then some entry
    else firstEligible (older ++ [entry]) rest

/-- The state that a bank takes at a decision point (R111). -/
def State.decision (s : State) (bank : Bank) : BankState :=
  if s.active.postponeLimit < bank.owed then .refreshing
  else if s.device = .initializing ∧ bank.clearPosition < Config.clearingServices then .serving .clearing
  else
    match firstEligible [] bank.queue with
    | some entry => .serving (.entry entry.position s.active.scrubOnCorrect s.active.logCorrected)
    | none => if 1 ≤ bank.owed then .refreshing else .idle

/-- A decision point of some IDLE bank is due (R110). -/
def State.decisionPending (s : State) : Bool :=
  s.banks.toList.any fun bank => bank.decisionDue && decide (bank.state = .idle)

/-- The decision of bank `b` (R111). -/
def State.decideBank (s : State) (b : BankId) : State :=
  let after := s.modBank b fun bank => { bank with state := s.decision bank, decisionDue := false }
  { after with tickDecisions := after.tickDecisions && after.decisionPending }

/-! ### Units -/

/-- The health of a unit (R113). -/
def State.unitHealth (s : State) (unit : UnitAddr) : Health := sparseRead .clean s.health unit.toNat

/-- The 16 data bytes of a unit. -/
def State.unitData (s : State) (unit : UnitAddr) : List Byte :=
  readBytes s.memory (unit.toNat * Config.unitBytes) Config.unitBytes

/-- The health of a unit set. -/
def State.setHealth (s : State) (unit : UnitAddr) (health : Health) : State :=
  { s with health := sparseWrite .clean s.health unit.toNat health }

/-- The data of a unit set. -/
def State.setData (s : State) (unit : UnitAddr) (data : List Byte) : State :=
  { s with memory := writeBytes s.memory (unit.toNat * Config.unitBytes) (data.take Config.unitBytes) }

/-- The health that an arm injects (R118). -/
def injectedHealth : InjectKind → Health
  | .correctable => .correctable
  | .uncorrectable => .uncorrectable

/-- A write of a unit that consults the ECC injection arm (R115, R118, R179). -/
def State.writeUnit (s : State) (unit : UnitAddr) (data : List Byte) : State :=
  let stored := s.setData unit data
  match s.mgmt.arm with
  | some (armed, kind) =>
    if armed = unit then
      (stored.setHealth unit (injectedHealth kind)).modMgmt fun m => { m with arm := none, consumed := true }
    else stored.setHealth unit .clean
  | none => stored.setHealth unit .clean

/-- A corrected unit counted (R117, step 1). -/
def State.countCorrected (s : State) (b : BankId) : State :=
  s.modBank b fun bank => { bank with corrected := count16 bank.corrected }

/-- A DATA record of a service: port, tag, aperture index and unit address (R114, R117). -/
def dataOffer (code : FaultCode) (entry : Entry) (unit : UnitAddr) : Offer :=
  { code := code, port := some entry.port, tag := some entry.tag, aperture := some entry.aperture, unit := some unit }

/-- The CORRECTED record of a unit, if log_corrected was on at the start of the service (R117, step 2). -/
def correctedOffers (log : Bool) (entry : Entry) (unit : UnitAddr) : List Offer :=
  if log then [dataOffer .corrected entry unit] else []

/-! ### Services -/

/-- What a service has done and what it answers. -/
structure Served where
  state : State
  status : Status
  compareEqual : Bool := false
  payload : List Byte := []
  offers : List Offer := []
deriving DecidableEq

/-- The units of a READ in ascending order (R114): the state, the data, the first UNCORRECTABLE unit and the records. -/
def State.readUnits (s : State) (b : BankId) (entry : Entry) (scrub log : Bool) :
    List UnitAddr → State × List Byte × Option UnitAddr × List Offer
  | [] => (s, [], none, [])
  | unit :: rest =>
    match s.unitHealth unit with
    | .clean =>
      let (final, data, poisoned, offers) := s.readUnits b entry scrub log rest
      (final, s.unitData unit ++ data, poisoned, offers)
    | .correctable =>
      let counted := s.countCorrected b
      let scrubbed := if scrub then counted.setHealth unit .clean else counted
      let (final, data, poisoned, offers) := scrubbed.readUnits b entry scrub log rest
      (final, s.unitData unit ++ data, poisoned, correctedOffers log entry unit ++ offers)
    | .uncorrectable =>
      let (final, data, _, offers) := s.readUnits b entry scrub log rest
      (final, data, some unit, offers)

/-- The service of a READ (R114). -/
def State.serveRead (s : State) (b : BankId) (entry : Entry) (scrub log : Bool) : Served :=
  let (final, data, poisoned, offers) := s.readUnits b entry scrub log (unitsFrom entry.unit entry.length)
  match poisoned with
  | none => { state := final, status := .ok, payload := data, offers := offers }
  | some unit => { state := final, status := .poisoned, offers := offers ++ [dataOffer .poisoned entry unit] }

/-- The units of a WRITE written in ascending order with 16 bytes each (R115). -/
def State.writeUnits (s : State) : List UnitAddr → (data : List Byte) → State
  | [], _ => s
  | unit :: rest, data => (s.writeUnit unit (data.take 16)).writeUnits rest (data.drop 16)

/-- The service of a WRITE (R115). -/
def State.serveWrite (s : State) (entry : Entry) (data : List Byte) : Served :=
  { state := s.writeUnits (unitsFrom entry.unit entry.length) data, status := .ok }

/-- A read-modify-write of one unit: the health decides as R116 states, and `change` gives the new data of the unit, the
compare-equal flag and the payload from its old data. -/
def State.serveModify (s : State) (b : BankId) (entry : Entry) (log : Bool)
    (change : List Byte → List Byte × Bool × List Byte) : Served :=
  let (data, equal, payload) := change (s.unitData entry.unit)
  match s.unitHealth entry.unit with
  | .clean => { state := s.writeUnit entry.unit data, status := .ok, compareEqual := equal, payload := payload }
  | .correctable =>
    { state := (s.countCorrected b).writeUnit entry.unit data, status := .ok, compareEqual := equal, payload := payload,
      offers := correctedOffers log entry entry.unit }
  | .uncorrectable => { state := s, status := .poisoned, offers := [dataOffer .poisoned entry entry.unit] }

/-- The change that a WRITE_MASKED makes (R116). -/
def maskedChange (data : List Byte) (mask : BitVec 16) (old : List Byte) : List Byte × Bool × List Byte :=
  (mergeBytes mask data old, false, [])

/-- The change that an ATOMIC makes; its payload is the old value (R124, R125). -/
def atomicChange (op : AtomicOp) (high : Bool) (operand second : BitVec 64) (old : List Byte) :
    List Byte × Bool × List Byte :=
  let value := halfValue high old
  let (new, equal) := atomicResult op value operand second
  (replaceHalf high new old, equal, leBytes 8 value.toNat)

/-- The service of a queue entry, by its kind (R114 to R116, R125). -/
def State.serve (s : State) (b : BankId) (entry : Entry) (scrub log : Bool) : Served :=
  match entry.op with
  | .read => s.serveRead b entry scrub log
  | .write data => s.serveWrite entry data
  | .writeMasked data mask => s.serveModify b entry log (maskedChange data mask)
  | .atomic op high operand second => s.serveModify b entry log (atomicChange op high operand second)

/-! ### Completion -/

/-- The bank after its service of an entry: the entry removed, the bank IDLE, its decision point due (R109, R119). -/
def leaveQueue (position : Nat) (bank : Bank) : Bank :=
  { bank with
    state := .idle, decisionDue := true, queue := bank.queue.filter fun entry => decide (entry.position ≠ position) }

/-- The in-flight count lowered at a completion, with the lookup at 0 (R82, R119, step 6). -/
def State.settleInFlight (s : State) (i : ApIndex) : State :=
  let dropped := s.dropInFlight i
  if (dropped.entry i).inFlight = 0 then dropped.lookupDrained State.parityFail i else dropped

/-- The response of a service, unless the entry was discarded (R119, step 3; R21). -/
def State.respondServed (s : State) (entry : Entry) (served : Served) : State :=
  if entry.discarded then s
  else
    s.respond entry.port
      { tag := entry.tag, status := served.status, compareEqual := served.compareEqual, payload := served.payload }

/-- The completion of the service of an entry of bank `b` (R119). -/
def State.completeEntry (s : State) (b : BankId) (entry : Entry) (scrub log : Bool) : State :=
  let served := s.serve b entry scrub log
  let answered := (served.state.offerAll served.offers).respondServed entry served
  let left := (answered.modBank b (leaveQueue entry.position)).fenceTest entry.port
  (if entry.orphaned then left else left.settleInFlight entry.aperture).promptAttempts

/-- The entry that bank `b` is serving, with the profile fields taken at the start. -/
def State.served (s : State) (b : BankId) : Option (Entry × Bool × Bool) :=
  match (s.bank b).state with
  | .serving (.entry position scrub log) =>
    ((s.bank b).queue.find? fun entry => decide (entry.position = position)).map fun entry => (entry, scrub, log)
  | _ => none

/-- The units of clearing service `position` of bank `b` written with zero data and CLEAN health (R122). -/
def State.clearUnits (s : State) (b : BankId) (position : Nat) : State :=
  { s with
    memory := sparseClear s.memory fun address => clears s.active.bankMap b position (address / Config.unitBytes),
    health := sparseClear s.health fun unit => clears s.active.bankMap b position unit }

/-- The clearing pass is complete: every bank has performed its clearing services (R10, R122). -/
def State.clearingDone (s : State) : Bool :=
  s.banks.toList.all fun bank => decide (Config.clearingServices ≤ bank.clearPosition)

/-- The completion of a clearing service of bank `b` (R122). The clearing position counts the services of the current
INITIALIZING (Table 6-1), so it keeps its value once the pass has been abandoned (R121). -/
def State.completeClearing (s : State) (b : BankId) : State :=
  let idle := (s.clearUnits b (s.bank b).clearPosition).modBank b fun bank =>
    { bank with state := .idle, decisionDue := true }
  if s.device = .initializing then
    let counted := idle.modBank b fun bank => { bank with clearPosition := bank.clearPosition + 1 }
    if counted.clearingDone then counted.enterReady else counted
  else idle

/-- The completion of a refresh of bank `b` (R146). -/
def State.completeRefresh (s : State) (b : BankId) : State :=
  (s.modBank b fun bank => { bank with owed := bank.owed - 1, state := .idle, decisionDue := true }).drainTest

end Sys2Proof.Machine
end

