-- ==== Sys2Proof/Machine/FrontEnd.lean ====
section
/-! DEFINITION. The port front end: the attempt at admission (R64, R106, R107), and the taking of a request with its gate, format
check and the handling of each kind (R53, R56 to R63, R89 to R92, R128 to R135). -/

namespace Sys2Proof.Machine

/-! ### Admission -/

/-- The entry that an admitted request becomes (R105). -/
def entryFor (p : PortId) (header : Header) (body : List Byte) (transfer : Transfer) (position : Nat)
    (parking : Option HoldId) : Entry :=
  { port := p, tag := header.tag, op := entryOp header body, unit := transfer.unit, length := transfer.length,
    aperture := transfer.aperture, position := position, parkedOn := parking, discarded := false, orphaned := false }

/-- The target bank of a transfer (R104). -/
def State.targetBank (s : State) (transfer : Transfer) : BankId := bankOf s.active.bankMap transfer.unit.toNat

/-- An entry appended to a bank queue; an IDLE bank has a decision point (R106, R110). -/
def appendEntry (entry : Entry) (bank : Bank) : Bank :=
  dueIfIdle { bank with queue := bank.queue ++ [entry], parked := bank.parked + entry.parkedOn.isSome.toNat }

/-- Admission (R106). -/
def State.admission (s : State) (p : PortId) (header : Header) (body : List Byte) (transfer : Transfer)
    (parking : Option HoldId) : State :=
  let queued := s.modBank (s.targetBank transfer) (appendEntry (entryFor p header body transfer s.order parking))
  let counted := queued.modEntry transfer.aperture fun entry => { entry with inFlight := entry.inFlight + 1 }
  ((counted.setTag p header.tag (some .bank)).popHead p).nextPlace

/-- The request waits at the head for bank queue space (R64). A request that waited already keeps its place. -/
def State.waitSpace (s : State) (p : PortId) (tag : Tag) : State :=
  if (s.port p).head = .waitingSpace then s
  else
    ((s.modPort p fun port => { port with head := .waitingSpace, waitingSince := s.order, attemptDue := false }).setTag p
      tag (some .head)).nextPlace

/-- The hold on which the hold test parks a request, none if it passes unparked (R132). -/
def State.holdTest (s : State) (p : PortId) (kind : RequestKind) (transfer : Transfer) : Option HoldId :=
  if writeType kind then s.parkingHold p transfer.unit transfer.length else none

/-- A record that names the request: its port, its tag and its slot (R101, Table 7-2). -/
def requestOffer (code : FaultCode) (p : PortId) (header : Header) (aperture : Option ApIndex)
    (unit : Option UnitAddr := none) : Offer :=
  { code := code, port := some p, tag := some header.tag, slot := some header.slot, aperture := aperture, unit := unit }

/-- An attempt at admission of the body at the head of port `p`, from the slot state check on (R64, R95). -/
def State.attempt (s : State) (p : PortId) (body : List Byte) : State :=
  let header := headerOf body
  match translate (s.slot p header.slot) header with
  | .error refused =>
    (s.answer p { tag := header.tag, status := refused.status }).offer (requestOffer refused.code p header refused.aperture)
  | .ok transfer =>
    let parking := s.holdTest p header.kind transfer
    let bank := s.bank (s.targetBank transfer)
    if parking.isSome && decide (Config.parkedLimit ≤ bank.parked) then
      (s.answer p { tag := header.tag, status := .held }).offer
        (requestOffer .held p header (some transfer.aperture) (some transfer.unit))
    else if bank.queue.length < Config.bankDepth then s.admission p header body transfer parking
    else s.waitSpace p header.tag

/-- A new attempt of the request that waits at the head of port `p` (R64). -/
def State.reattempt (s : State) (p : PortId) : State :=
  (s.modPort p fun port => { port with attemptDue := false }).attempt p ((s.port p).fifo.headD [])

/-! ### The kinds answered at once (R56 to R59) -/

/-- A BIND refused (R90) with its PROTECTION record (R102). -/
def State.refuseBind (s : State) (p : PortId) (header : Header) (status : Status) (code : FaultCode) : State :=
  (s.answer p { tag := header.tag, status := status }).offer
    (requestOffer code p header (some (handleIndex (bindHandle header))))

/-- The effective tier of a binding (R73). -/
def effectiveTier (portTier : Tier) (handle : BitVec 16) : Tier := max portTier (handleTier handle)

/-- The copy that a BIND places in its slot (Table 5-1, R90). -/
def copyOf (handle : BitVec 16) (tier : Tier) (entry : ApEntry) : SlotCopy :=
  { handle := handle, effectiveTier := tier, base := entry.base, limit := entryLimit entry,
    granularity := entry.granularity, rights := entry.rights }

/-- BIND (R89, R90). -/
def State.takeBind (s : State) (p : PortId) (header : Header) : State :=
  let handle := bindHandle header
  let index := handleIndex handle
  let tier := effectiveTier (s.port p).config.tier handle
  let entry := s.entry index
  if index = 0 then (s.setSlot p header.slot .nullBound).answer p { tag := header.tag, status := .ok }
  else if entry.parityBad then (s.parityFail index).answer p { tag := header.tag, status := .deviceHalted }
  else if entry.state ≠ .live ∨ entry.generation ≠ handleGeneration handle then
    s.refuseBind p header .noAperture .noAperture
  else if !entry.portMask.getLsbD p.val then s.refuseBind p header .deniedPort .deniedPort
  else if entry.accessTier < tier then s.refuseBind p header .deniedTier .deniedTier
  else (s.setSlot p header.slot (.bound (copyOf handle tier entry))).answer p { tag := header.tag, status := .ok }

/-- UNBIND (R91). -/
def State.takeUnbind (s : State) (p : PortId) (header : Header) : State :=
  (s.setSlot p header.slot .empty).answer p { tag := header.tag, status := .ok }

/-- The QUERY_SLOT record of a copy (Table 5-3). -/
def copyRecord (state : Byte) (copy : SlotCopy) : List Byte :=
  [state, BitVec.ofNat 8 copy.effectiveTier, rightsByte copy.rights, granularityByte copy.granularity] ++
    leBytes 2 copy.handle.toNat ++ [0, 0] ++ leBytes 4 ((copy.limit.toNat + 1) * 16 - 1) ++ [0, 0, 0, 0]

/-- The QUERY_SLOT record of a slot (R92). -/
def slotRecord : Slot → List Byte
  | .empty => padded 16 [0]
  | .nullBound => padded 16 [1]
  | .bound copy => copyRecord 2 copy
  | .stale copy => copyRecord 3 copy

/-- QUERY_SLOT (R92). -/
def State.takeQuery (s : State) (p : PortId) (header : Header) : State :=
  s.answer p { tag := header.tag, status := .ok, payload := slotRecord (s.slot p header.slot) }

/-- A HOLD_OPEN refused by its own checks, with its HOLD record (R128). -/
def State.refuseHold (s : State) (p : PortId) (header : Header) (copy : SlotCopy) (status : Status) (code : FaultCode)
    (unit : Option UnitAddr := none) : State :=
  (s.answer p { tag := header.tag, status := status }).offer
    (requestOffer code p header (some (handleIndex copy.handle)) unit)

/-- A hold granted (R131). -/
def State.grantHold (s : State) (p : PortId) (header : Header) (copy : SlotCopy) (h : HoldId) : State :=
  let duration := grantedDuration (durationField header) s.active.holdCeiling
  (s.setHold h (some
    { owner := p, aperture := handleIndex copy.handle, generation := handleGeneration copy.handle,
      first := unitOfOffset copy header.offset, span := spanField header, remaining := duration })).answer p
    { tag := header.tag, status := .ok, payload := [BitVec.ofNat 8 h, 0] ++ leBytes 2 duration }

/-- Steps 4 to 7 of HOLD_OPEN and the grant (R128 to R131). -/
def State.judgeHold (s : State) (p : PortId) (header : Header) (copy : SlotCopy) : State :=
  let first := unitOfOffset copy header.offset
  if header.offset % 16 ≠ 0 then s.refuseHold p header copy .badAlign .holdBadAlign
  else if spanField header = 0 ∨ Config.maxSpan < spanField header then
    s.refuseHold p header copy .badAlign .holdBadSpan
  else if !inBounds copy header.offset (spanField header) then
    s.refuseHold p header copy .outOfBounds .holdOutOfBounds
  else if s.holdsExhausted p then s.refuseHold p header copy .holdExhausted .holdExhausted (some first)
  else if s.holdConflicts p first (spanField header) then
    s.refuseHold p header copy .holdConflict .holdConflict (some first)
  else
    match s.freeHold with
    | some h => s.grantHold p header copy h
    | none => s.refuseHold p header copy .holdExhausted .holdExhausted (some first)

/-- HOLD_OPEN (R128). The state of the port's link, ACTIVE or RETRAIN, has no part in it (DEDUCED,
notes/assumptions/24.md). -/
def State.takeHoldOpen (s : State) (p : PortId) (header : Header) : State :=
  match slotCheck (s.slot p header.slot) with
  | .error refused =>
    (s.answer p { tag := header.tag, status := refused.status }).offer (requestOffer refused.code p header refused.aperture)
  | .ok copy =>
    if !rightHeld header.kind copy.rights then
      (s.answer p { tag := header.tag, status := .deniedRights }).offer
        (requestOffer .deniedRights p header (some (handleIndex copy.handle)))
    else s.judgeHold p header copy

/-- HOLD_RELEASE (R135). -/
def State.takeHoldRelease (s : State) (p : PortId) (header : Header) : State :=
  let h := holdField header
  if (s.hold h).any fun hold => decide (hold.owner = p) then
    (s.endHold h .release).answer p { tag := header.tag, status := .ok }
  else
    (s.answer p { tag := header.tag, status := .noHold }).offer { code := .noHold, port := some p, tag := some header.tag }

/-- FENCE (R58). -/
def State.takeFence (s : State) (p : PortId) (header : Header) : State :=
  if outstanding (s.port p) = 0 then s.answer p { tag := header.tag, status := .ok }
  else (s.modPort p fun port => { port with head := .waitingFence }).setTag p header.tag (some .head)

/-- An in-band MGMT request denied, with its record (R59). -/
def State.denyMgmt (s : State) (p : PortId) (header : Header) (status : Status) : State :=
  (s.answer p { tag := header.tag, status := status }).offer
    { code := .mgmtDenied, port := some p, tag := some header.tag }

/-- MGMT (R59). -/
def State.takeMgmt (s : State) (p : PortId) (header : Header) (body : List Byte) : State :=
  if !(s.port p).config.mgmtCapable then s.denyMgmt p header .deniedPort
  else if (s.port p).config.tier ≠ 0 then s.denyMgmt p header .deniedTier
  else if Config.mgmtDepth ≤ s.mgmt.queue.length then s.answer p { tag := header.tag, status := .mgmtBusy }
  else
    let queued := s.modMgmt fun m =>
      { m with queue := m.queue ++ [{ source := .port p header.tag, block := body.drop 8, placed := s.order }] }
    ((queued.setTag p header.tag (some .mgmt)).popHead p).nextPlace

/-! ### The taking (R62) -/

/-- The device-state gate (R63): the status of its answer, none where the request passes. -/
def gate (device : DevState) (kind : RequestKind) : Option Status :=
  if kind = .mgmt then none
  else
    match device with
    | .draining _ => some .retry
    | .halted => some .deviceHalted
    | _ => none

/-- The handling of a request that has passed the format check, by its kind (R62, steps 4 and 5). -/
def State.takeKind (s : State) (p : PortId) (header : Header) (body : List Byte) : State :=
  match header.kind with
  | .read | .write | .writeMasked | .atomic => s.attempt p body
  | .bind => s.takeBind p header
  | .unbind => s.takeUnbind p header
  | .querySlot => s.takeQuery p header
  | .holdOpen => s.takeHoldOpen p header
  | .holdRelease => s.takeHoldRelease p header
  | .fence => s.takeFence p header
  | .mgmt => s.takeMgmt p header body
  | .invalid => s

/-- A request whose tag is OUTSTANDING is discarded (R61). -/
def State.discardReused (s : State) (p : PortId) (tag : Tag) : State :=
  ((s.popHead p).offer { code := .tagReuse, port := some p, tag := some tag }).raise p (.protocolError tag .tagReuse)

/-- A request that fails the format check (R53). -/
def State.badRequest (s : State) (p : PortId) (tag : Tag) : State :=
  (s.answer p { tag := tag, status := .badRequest }).offer { code := .badRequest, port := some p, tag := some tag }

/-- The taking of a body that has a header: tag test, gate, format check and the handling of its kind (R62). -/
def State.takeRequest (s : State) (p : PortId) (body : List Byte) : State :=
  let header := headerOf body
  if (s.tagHolder p header.tag).isSome then s.discardReused p header.tag
  else
    match gate s.device header.kind with
    | some status => s.answer p { tag := header.tag, status := status }
    | none => if formatOk header body.length then s.takeKind p header body else s.badRequest p header.tag

/-- A body shorter than 8 bytes is removed (R53). -/
def State.takeShort (s : State) (p : PortId) : State :=
  (s.popHead p).offer { code := .shortRequest, port := some p }

/-- The taking of the body at the head of port `p` (R62). -/
def State.takeHead (s : State) (p : PortId) : State :=
  match (s.port p).fifo with
  | [] => s
  | body :: _ => if tooShort body then s.takeShort p else s.takeRequest p body

end Sys2Proof.Machine
end

