-- ==== Sys2Proof/Machine/Sched.lean ====
section
/-! DEFINITION. The tick (R142, R143) and the order of the events that an event prompts (R1, R62, R64, R110): which one is due
next, its effect, and settling, which lets those that are due take effect before a later event. -/

namespace Sys2Proof.Machine

/-! ### The tick -/

/-- A hold entry counts down on a tick (R136). -/
def countHold (entry : Option Hold) : Option Hold :=
  entry.map fun (hold : Hold) => { hold with remaining := hold.remaining - 1 }

/-- The hold table on a tick: every ACTIVE hold counts down, and those at 0 expire (R136). -/
def State.tickHolds (s : State) : State :=
  let counted := { s with holds := s.holds.map countHold }
  counted.endHolds .expiry fun hold => decide (hold.remaining = 0)

/-- A bank engine on a tick (R145); an obligation gives an IDLE bank a decision point. -/
def tickBank (interval : Nat) (bank : Bank) : Bank :=
  if interval ≤ bank.sinceRefresh + 1 then
    dueIfIdle { bank with owed := bank.owed + 1, sinceRefresh := 0, owedMax := max bank.owedMax (bank.owed + 1) }
  else { bank with sinceRefresh := bank.sinceRefresh + 1 }

/-- A link engine on a tick (R35, R45, R49). -/
def State.tickLink (s : State) (p : PortId) : State :=
  let link := s.link p
  match link.state with
  | .active =>
    if link.replay.isEmpty then s
    else if Config.ackTimeout ≤ link.ackTimer + 1 then
      (s.modLink p fun link => { link with ackTimer := link.ackTimer + 1 }).replayDue p
    else s.modLink p fun link => { link with ackTimer := link.ackTimer + 1 }
  | .training =>
    if Config.trainingTimeout ≤ link.trainTimer + 1 then
      s.modLink p fun link => { link with trainTimer := 0, trainReqWaiting := true }
    else s.modLink p fun link => { link with trainTimer := link.trainTimer + 1 }
  | .retrain =>
    if Config.trainingTimeout ≤ link.trainTimer + 1 then
      if link.trainAttempts < Config.trainingAttempts then
        s.modLink p fun link =>
          { link with trainTimer := 0, trainAttempts := link.trainAttempts + 1, trainReqWaiting := true }
      else (s.modLink p fun link => { link with trainTimer := link.trainTimer + 1 }).teardown p .linkFailure
    else s.modLink p fun link => { link with trainTimer := link.trainTimer + 1 }
  | .down | .failed => s

/-- The end of calibration (R5, R143, step 5). -/
def State.tickCalibration (s : State) : State :=
  if s.device = .calibrating ∧ s.tickCount = BitVec.ofNat 32 Config.calibrationTicks then s.setDevice .unconfigured else s

/-- A tick (R143). The oldest tick due is the one that takes effect, and the decision points that it leaves due are not held
by a later one. -/
def State.takeTick (s : State) : State :=
  let counted := { s with tickCount := s.tickCount + 1, ticksDue := s.ticksDue.tail }
  let timed := counted.tickHolds.mapBanks (tickBank s.active.refreshInterval)
  let linked := (allPorts.foldl State.tickLink timed).tickCalibration.finishParity
  { linked with tickDecisions := linked.decisionPending }

/-- The ports whose ACK-owed flag is set (R142). -/
def State.ackOwedSet (s : State) : BitVec 4 :=
  BitVec.ofNat 4 (allPorts.foldl (fun sum p => if (s.link p).ackOwed then sum + 2 ^ p.val else sum) 0)

/-- A tick falls due, except while RESET_N is low (R142). -/
def State.fallDue (s : State) : State :=
  if s.device = .reset then s else { s with ticksDue := s.ticksDue ++ [s.ackOwedSet] }

/-- No bank engine is SERVING or REFRESHING. -/
def State.banksIdle (s : State) : Bool := s.banks.toList.all fun bank => decide (bank.state = .idle)

/-- The oldest tick due can take effect (R142): every bank is IDLE, every port it waits for has cleared its ACK-owed flag,
and the decision points that the tick before it prompted have been taken. -/
def State.tickReady (s : State) : Bool :=
  match s.ticksDue with
  | [] => false
  | waits :: _ => decide (waits = 0) && s.banksIdle && !(s.tickDecisions && s.decisionPending)

/-! ### What is due -/

/-- The events that other events prompt (R1). -/
inductive Due
  | attempt (port : PortId)
  | take (port : PortId)
  | drain
  | tick
  | decide (bank : BankId)
deriving DecidableEq, Repr

/-- The port has a new attempt due. -/
def attemptWaits (port : Port) : Bool := decide (port.head = .waitingSpace) && port.attemptDue

/-- The port whose new attempt comes next: the one whose waiting request was taken first (R64). -/
def State.attemptPort (s : State) : Option PortId :=
  allPorts.foldl (fun (best : Option PortId) (p : PortId) =>
    if attemptWaits (s.port p) then
      match best with
      | none => some p
      | some q => if (s.port p).waitingSince < (s.port q).waitingSince then some p else some q
    else best) none

/-- The port has a body to take: it became the head with head condition NONE (R62), in a state in which requests are taken
(R51). The link state has no part in it: R51 and R33 have the front end go on in RETRAIN. That this holds of a HOLD_OPEN
too, although R140 says that a hold is granted only over an ACTIVE link, is DEDUCED (notes/assumptions/24.md). -/
def takeable (device : DevState) (port : Port) : Bool :=
  device.linksRun && decide (port.head = .none) && !port.fifo.isEmpty

/-- The port that takes next (R62). -/
def State.takePort (s : State) : Option PortId := allPorts.find? fun p => takeable s.device (s.port p)

/-- The bank that decides next: in the order B0 to B7, and not while a tick is due, unless that tick came after the one
that prompted the decision points (R110, R142, R143). -/
def State.decideNext (s : State) : Option BankId :=
  if s.ticksDue.isEmpty || s.tickDecisions then
    allBanks.find? fun b => (s.bank b).decisionDue && decide ((s.bank b).state = .idle)
  else none

/-- The event that is due next, none if nothing is: new attempts, then takings, then the drain completion test of the event
that prompted them, then a tick that can take effect, then decision points (R1, R14, R142). -/
def State.nextDue (s : State) : Option Due :=
  match s.attemptPort with
  | some p => some (.attempt p)
  | none =>
    match s.takePort with
    | some p => some (.take p)
    | none =>
      if s.device.isDraining && s.drainDone then some .drain
      else if s.tickReady then some .tick
      else s.decideNext.map .decide

/-- The effect of a due event. Each attempt and each taking ends with the drain completion test, so that a body behind it is
taken in the state that the drain leaves (R1, R14). -/
def State.runDue (s : State) : Due → State
  | .attempt p => (s.reattempt p).drainEvent
  | .take p => (s.takeHead p).drainEvent
  | .drain => s.drainEvent
  | .tick => s.takeTick
  | .decide b => s.decideBank b

/-! ### Settling -/

/-- The due events take effect one after the other, as long as there is one that may go, and at most `fuel` of them. -/
def settleWhile (go : State → Due → Bool) : (fuel : Nat) → State → State
  | 0, s => s
  | fuel + 1, s =>
    match s.nextDue with
    | none => s
    | some due => if go s due then settleWhile go fuel (s.runDue due) else s

/-- More due events than can follow one another before the next stimulus: the four FIFOs hold at most 128 bodies, and each
tick due prompts at most four attempts, a drain completion and eight decisions. -/
def State.settleFuel (s : State) : Nat := 256 * (s.ticksDue.length + 1)

/-- Every event that is due takes effect (R1). -/
def State.settle (s : State) : State := settleWhile (fun _ _ => true) s.settleFuel s

/-- What goes before a tick that now falls due (R142): all that is due but the decision points that it holds. -/
def beforeTick (s : State) : Due → Bool
  | .decide _ => s.tickDecisions
  | _ => true

/-- The due events that go before a tick take effect (R142, R143). -/
def State.settleTick (s : State) : State := settleWhile beforeTick s.settleFuel s

/-- The taking is that of a MGMT request, which an SPI SUBMIT goes before (R167). -/
def takesMgmt (s : State) : Due → Bool
  | .take p => decide ((headerOf ((s.port p).fifo.headD [])).kind = .mgmt)
  | _ => false

/-- The due events that go before an SPI SUBMIT take effect (R167). -/
def State.settleSubmit (s : State) : State := settleWhile (fun s due => !takesMgmt s due) s.settleFuel s

/-- The due events that go before a prompted event take effect, and then that event, if it then is due (R1). -/
def State.prompted (s : State) (which : State → Due → Bool) : State :=
  let before := settleWhile (fun s due => !which s due) s.settleFuel s
  match before.nextDue with
  | some due => if which before due then before.runDue due else before
  | none => before

/-- A tick falls due after the event then taking effect and the takings and attempts it prompted, and takes effect at once
if it can (R142). -/
def State.tickEvent (s : State) : State :=
  let due := s.settleTick.fallDue
  if due.tickReady then due.takeTick else due

/-- A tick that meets a condition falls due and takes effect at once; otherwise nothing happens. The condition names what
comes about in the tick. -/
def State.tickWhen (s : State) (condition : State → Bool) : State :=
  let before := s.settleTick
  if before.ticksDue.isEmpty && condition before && before.fallDue.tickReady then before.fallDue.takeTick else before

end Sys2Proof.Machine
end

