-- ==== Sys2Proof/Machine/Lifecycle.lean ====
section
/-! DEFINITION. The meanings of the commands of the pins, the timebase and the disturbances: RESET_N, the ticks by what comes
about in them, the disturbance of memory and of the aperture table, and the completion of a drain. -/

namespace Sys2Proof.Machine

/-- The part with RESET_N asserted: everything is abandoned and takes its reset value, but for the memory array, its unit
health (R4, R25) and the model's own queue of commands. -/
def State.assertReset (s : State) : State :=
  { State.reset with memory := s.memory, health := s.health, pending := s.pending }

/-- RESET_N_ASSERT (R4). It waits for nothing. -/
def execResetNAssert (s : State) : Host.Outcome State Fault Refusal := .next s.assertReset

/-- RESET_N_RELEASE (R5); without effect where RESET_N is high already. -/
def execResetNRelease (s : State) : Host.Outcome State Fault Refusal :=
  .next (if s.device = .reset then s.setDevice .calibrating else s)

/-- TICK: a tick falls due (R142, R143). -/
def execTick (s : State) : Host.Outcome State Fault Refusal := .next s.tickEvent

/-- The next tick ends CALIBRATING (R5). -/
def calibrationEnds (s : State) : Bool :=
  decide (s.device = .calibrating ∧ s.tickCount + 1 = BitVec.ofNat 32 Config.calibrationTicks)

/-- CALIBRATION_END: the tick that brings the count to 150 in CALIBRATING (R5). -/
def execCalibrationEnd (s : State) : Host.Outcome State Fault Refusal := .next (s.tickWhen calibrationEnds)

/-- The next tick gives bank `b` an obligation (R145). -/
def obligationFalls (b : BankId) (s : State) : Bool :=
  decide (s.active.refreshInterval ≤ (s.bank b).sinceRefresh + 1)

/-- REFRESH_OBLIGATION: a tick on which bank `b` acquires an obligation (R145). -/
def execRefreshObligation (b : BankId) (s : State) : Host.Outcome State Fault Refusal :=
  .next (s.tickWhen (obligationFalls b))

/-- Hold `h` expires on the next tick (R136). -/
def holdExpires (h : HoldId) (s : State) : Bool := (s.hold h).any fun hold => decide (hold.remaining ≤ 1)

/-- HOLD_EXPIRY: a tick on which hold `h` expires (R136). -/
def execHoldExpiry (h : HoldId) (s : State) : Host.Outcome State Fault Refusal := .next (s.tickWhen (holdExpires h))

/-- The ack timer of port `p` reaches 16 on the next tick (R45). -/
def ackTimesOut (p : PortId) (s : State) : Bool :=
  decide ((s.link p).state = .active ∧ (s.link p).replay ≠ [] ∧ Config.ackTimeout ≤ (s.link p).ackTimer + 1)

/-- ACK_TIMEOUT: a tick on which the ack timer of port `p` reaches 16 (R45). -/
def execAckTimeout (p : PortId) (s : State) : Host.Outcome State Fault Refusal := .next (s.tickWhen (ackTimesOut p))

/-- The training timer of port `p` reaches 100 on the next tick (R35). -/
def trainingTimesOut (p : PortId) (s : State) : Bool :=
  decide (((s.link p).state = .training ∨ (s.link p).state = .retrain) ∧
    Config.trainingTimeout ≤ (s.link p).trainTimer + 1)

/-- TRAINING_TIMEOUT: a tick on which the training timer of port `p` reaches 100 (R35). -/
def execTrainingTimeout (p : PortId) (s : State) : Host.Outcome State Fault Refusal :=
  .next (s.tickWhen (trainingTimesOut p))

/-- The health of a unit after a disturbance, which never makes it better (R113). -/
def worseHealth (old struck : Health) : Health :=
  match old, struck with
  | .uncorrectable, _ | _, .uncorrectable => .uncorrectable
  | .correctable, _ | _, .correctable => .correctable
  | .clean, .clean => .clean

/-- MEMORY_DISTURBANCE: the stored bits of a unit are disturbed (R113). -/
def execMemoryDisturbance (unit : UnitAddr) (health : Health) (s : State) : Host.Outcome State Fault Refusal :=
  let settled := s.settle
  .next (settled.setHealth unit (worseHealth (settled.unitHealth unit) health))

/-- A bit vector with one bit flipped. -/
def flipBit {width : Nat} (value : BitVec width) (bit : Fin width) : BitVec width :=
  value ^^^ BitVec.ofNat width (2 ^ bit.val)

/-- Rights with one of the three bits flipped (READ, WRITE, ATOMIC). -/
def flipRight (rights : Rights) (bit : Fin 3) : Rights :=
  if bit = 0 then { rights with read := !rights.read }
  else if bit = 1 then { rights with write := !rights.write }
  else { rights with atomic := !rights.atomic }

/-- The stored fields of an entry with one bit struck (R70). -/
def strikeBit (bit : StoredBit) (entry : ApEntry) : ApEntry :=
  match bit with
  | .state reads => { entry with state := reads }
  | .generation bit => { entry with generation := flipBit entry.generation bit }
  | .base bit => { entry with base := flipBit entry.base bit }
  | .limit bit => { entry with limit := flipBit entry.limit bit }
  | .granularity => { entry with granularity := if entry.granularity = .unit then .page else .unit }
  | .rights bit => { entry with rights := flipRight entry.rights bit }
  | .accessTier bit => { entry with accessTier := Fin.ofNat 4 (entry.accessTier.val ^^^ 2 ^ bit.val) }
  | .portMask bit => { entry with portMask := flipBit entry.portMask bit }
  | .parity => entry

/-- An entry disturbed: its parity no longer agrees (R84). Index 0 stays FREE with generation 0 (section 4.1). -/
def disturbEntry (index : ApIndex) (bit : StoredBit) (entry : ApEntry) : ApEntry :=
  { (if index = 0 then entry else strikeBit bit entry) with parityBad := true }

/-- TABLE_DISTURBANCE: a stored bit of an aperture entry is disturbed (R84). While RESET_N is low the table is held at its
reset value (R4). -/
def execTableDisturbance (index : ApIndex) (bit : StoredBit) (s : State) : Host.Outcome State Fault Refusal :=
  let settled := s.settle
  .next (if settled.device = .reset then settled else settled.modEntry index (disturbEntry index bit))

/-- The event is this one. -/
def isDue (wanted : Due) (_s : State) (due : Due) : Bool := decide (due = wanted)

/-- DRAIN_COMPLETE: the drain completion test that follows an event finds the drain complete (R14). -/
def execDrainComplete (s : State) : Host.Outcome State Fault Refusal := .next (s.prompted (isDue .drain))

end Sys2Proof.Machine
end

