-- ==== Sys2Proof/Machine/Banks.lean ====
section
/-! DEFINITION. The meanings of the commands of the bank engines: decisions (R111), completions by the kind served (R119), clearing
services (R122) and refreshes (R146). -/

namespace Sys2Proof.Machine

/-- The kinds of service (Table 6-2). -/
inductive ServiceKind
  | read
  | write
  | writeMasked
  | atomic
deriving DecidableEq, Repr

/-- The kind of service that an entry takes. -/
def serviceKind : EntryOp → ServiceKind
  | .read => .read
  | .write _ => .write
  | .writeMasked _ _ => .writeMasked
  | .atomic _ _ _ _ => .atomic

/-- The completion of the service of bank `b`, if it serves an entry of this kind (R119). -/
def State.complete (s : State) (b : BankId) (kind : ServiceKind) : State :=
  match s.served b with
  | some (entry, scrub, log) => if serviceKind entry.op = kind then s.completeEntry b entry scrub log else s
  | none => s

/-- BANK_DECISION (R110, R111). -/
def execBankDecision (b : BankId) (s : State) : Host.Outcome State Fault Refusal := .next (s.prompted (isDue (.decide b)))

/-- READ_SERVICE (R114, R119). -/
def execReadService (b : BankId) (s : State) : Host.Outcome State Fault Refusal := .next (s.settle.complete b .read)

/-- WRITE_SERVICE (R115, R119). -/
def execWriteService (b : BankId) (s : State) : Host.Outcome State Fault Refusal := .next (s.settle.complete b .write)

/-- WRITE_MASKED_SERVICE (R116, R119). -/
def execWriteMaskedService (b : BankId) (s : State) : Host.Outcome State Fault Refusal :=
  .next (s.settle.complete b .writeMasked)

/-- ATOMIC_SERVICE (R125, R119). -/
def execAtomicService (b : BankId) (s : State) : Host.Outcome State Fault Refusal := .next (s.settle.complete b .atomic)

/-- CLEARING_SERVICE (R122). -/
def execClearingService (b : BankId) (s : State) : Host.Outcome State Fault Refusal :=
  let settled := s.settle
  .next (if (settled.bank b).state = .serving .clearing then settled.completeClearing b else settled)

/-- REFRESH_COMPLETE (R146). -/
def execRefreshComplete (b : BankId) (s : State) : Host.Outcome State Fault Refusal :=
  let settled := s.settle
  .next (if (settled.bank b).state = .refreshing then (settled.completeRefresh b).finishParity else settled)

end Sys2Proof.Machine
end

