-- ==== Sys2Proof/Machine/Link.lean ====
section
/-! DEFINITION. The meanings of the commands of the links: the arrival of each kind of parcel (R28, R31 to R41) and the send of
each kind (R46, R47). -/

namespace Sys2Proof.Machine

/-! ### Arrivals -/

/-- The link counts malformed parcels (R28). -/
def countsErrors (link : Link) : Bool := decide (link.state = .training ∨ link.state = .retrain ∨ link.state = .active)

/-- A malformed parcel at a link engine: counted, and in ACTIVE followed by a NAK (R28, R41). -/
def takeMalformed (link : Link) : Link :=
  let counted := if countsErrors link then { link with crcErrors := count16 link.crcErrors } else link
  if link.state = .active then queueNak counted else counted

/-- MALFORMED_PARCEL (R28); a frame that is not malformed is no such arrival. -/
def execMalformedParcel (p : PortId) (frame : List Byte) (s : State) : Host.Outcome State Fault Refusal :=
  .next (if malformed frame then s.settle.modLink p takeMalformed else s.settle)

/-- The expected DATA parcel accepted, or refused by a full ingress FIFO (R37, R38). -/
def State.acceptExpected (s : State) (p : PortId) (body : List Byte) : State :=
  if (s.port p).fifo.length < Config.fifoDepth then
    (s.modPort p fun port => { port with fifo := port.fifo ++ [body] }).modLink p fun link =>
      { link with recvSeq := link.recvSeq + 1, nakPending := false, ackOwed := true }
  else s.offer { code := .ingressFull, port := some p }

/-- A DATA parcel classed by its sequence number: expected, duplicate or out of order (R37). -/
def State.classify (s : State) (p : PortId) (seq : Seq) (body : List Byte) : State :=
  let past := distance seq (s.link p).recvSeq
  if past = 0 then s.acceptExpected p body
  else if past ≤ 32 then s.modLink p fun link => { link with ackOwed := true }
  else s.modLink p queueNak

/-- RECEIVE_DATA (R36, R37); a body of a length that does not suit a DATA parcel makes the parcel malformed (R28). -/
def execReceiveData (p : PortId) (seq ack : Seq) (body : List Byte) (s : State) : Host.Outcome State Fault Refusal :=
  let settled := s.settle
  .next
    (if !bodySuits .data body.length then settled.modLink p takeMalformed
     else if (settled.link p).state = .active then (settled.processAck p ack).classify p seq body
     else settled)

/-- RECEIVE_ACK (R39). -/
def execReceiveAck (p : PortId) (ack : Seq) (s : State) : Host.Outcome State Fault Refusal :=
  let settled := s.settle
  .next (if (settled.link p).state = .active then settled.processAck p ack else settled)

/-- A NAK whose ack passed the window test: a replay falls due if parcels remain (R40). -/
def State.replayFrom (s : State) (p : PortId) (ack : Seq) : State :=
  let removed := s.modLink p fun link => removeAcked link ack
  if (removed.link p).replay.isEmpty then removed else removed.replayDue p

/-- RECEIVE_NAK (R40). -/
def execReceiveNak (p : PortId) (ack : Seq) (s : State) : Host.Outcome State Fault Refusal :=
  let settled := s.settle
  .next
    (if (settled.link p).state = .active then
      if ackInWindow (settled.link p) ack then settled.replayFrom p ack
      else settled.offer { code := .badAck, port := some p }
     else settled)

/-- A host reset: the teardown, then the handling of the TRAIN_REQ that caused it (R32, R85). -/
def State.hostResetPort (s : State) (p : PortId) : State :=
  let torn := s.teardown p .hostReset
  (if (torn.link p).state = .training then torn.acceptFreshRequest p else torn).finishParity

/-- A TRAIN_REQ with fresh 1 at port `p`, by the link state (R29, R31, R32). -/
def State.freshRequest (s : State) (p : PortId) : State :=
  match (s.link p).state with
  | .training => s.acceptFreshRequest p
  | .active | .retrain => s.hostResetPort p
  | .down | .failed => s

/-- RECEIVE_TRAIN_REQ: a TRAIN_REQ with fresh 1 (R31). -/
def execReceiveTrainReq (p : PortId) (s : State) : Host.Outcome State Fault Refusal := .next (s.settle.freshRequest p)

/-- HOST_RESET: a TRAIN_REQ with fresh 1 from a host that has restarted (R32). It is the same parcel, so the link state
decides as for RECEIVE_TRAIN_REQ. -/
def execHostReset (p : PortId) (s : State) : Host.Outcome State Fault Refusal := .next (s.settle.freshRequest p)

/-- A TRAIN_REQ with fresh 0 at port `p`, by the link state (R31, R33, R34). -/
def State.retrainRequest (s : State) (p : PortId) (ack : Seq) : State :=
  match (s.link p).state with
  | .active => (s.enterRetrain p .retrainRemote).acceptRetrainRequest p ack
  | .retrain => s.acceptRetrainRequest p ack
  | .training | .down | .failed => s

/-- RECEIVE_RETRAIN_REQ (R33, R34). -/
def execReceiveRetrainReq (p : PortId) (ack : Seq) (s : State) : Host.Outcome State Fault Refusal :=
  .next (s.settle.retrainRequest p ack)

/-- A TRAIN_ACK at port `p`, by the link state and its fresh bit (R31, R34, R36). -/
def State.trainAnswer (s : State) (p : PortId) (fresh : Bool) (ack : Seq) : State :=
  match (s.link p).state, fresh with
  | .training, true => (s.modLink p fun link => { link with answerReceived := true }).trainingTest p
  | .retrain, false =>
    (s.modLink p fun link => { link with answerReceived := true, hostExpected := some ack }).trainingTest p
  | _, _ => s

/-- RECEIVE_TRAIN_ACK (R31, R34). -/
def execReceiveTrainAck (p : PortId) (fresh : Bool) (ack : Seq) (s : State) : Host.Outcome State Fault Refusal :=
  .next (s.settle.trainAnswer p fresh ack)

/-! ### Sends -/

/-- The send of a parcel of this kind, if it is the kind that the engine sends next (R46, R47). -/
def State.sendOf (s : State) (p : PortId) (kind : SendKind) : State :=
  if nextSend (s.port p) = some kind then s.sendParcel p kind else s

/-- SEND_TRAIN_ACK (R46). -/
def execSendTrainAck (p : PortId) (s : State) : Host.Outcome State Fault Refusal := .next (s.settle.sendOf p .trainAck)

/-- SEND_TRAIN_REQ (R46). -/
def execSendTrainReq (p : PortId) (s : State) : Host.Outcome State Fault Refusal := .next (s.settle.sendOf p .trainReq)

/-- SEND_NAK (R41, R46). -/
def execSendNak (p : PortId) (s : State) : Host.Outcome State Fault Refusal := .next (s.settle.sendOf p .nak)

/-- SEND_RETRANSMIT (R43, R46). -/
def execSendRetransmit (p : PortId) (s : State) : Host.Outcome State Fault Refusal :=
  .next (s.settle.sendOf p .retransmit)

/-- SEND_NEW_DATA (R42, R46, R48). -/
def execSendNewData (p : PortId) (s : State) : Host.Outcome State Fault Refusal := .next (s.settle.sendOf p .newData)

/-- SEND_ACK (R41, R46). -/
def execSendAck (p : PortId) (s : State) : Host.Outcome State Fault Refusal := .next (s.settle.sendOf p .ack)

end Sys2Proof.Machine
end

