-- ==== Sys2Proof/Machine/Registers.lean ====
section
/-! DEFINITION. The registers: the address map (Table 11-1), the value that each word reads (Tables 11-2 to 11-4), the write actions
(R177), and the blocks in which records, entries and the SPI status are reported (Tables 9-1 and 10-2, R172). -/

namespace Sys2Proof.Machine

/-- The register words (Table 11-1). -/
inductive Register
  | devid | dstate | timebase | profActive | profStaged
  | portCfg (p : PortId)
  | portStat0 (p : PortId)
  | portStat1 (p : PortId)
  | bankStat (b : BankId)
  | holdStat | logStat0 | logStat1 | logClass | alertMask | injStat | mgmtStat
deriving DecidableEq, Repr

/-- The register word at an address, none where the address names no register (Table 11-1). -/
def registerAt (address : Nat) : Option Register :=
  if address = 0x00 then some .devid
  else if address = 0x01 then some .dstate
  else if address = 0x02 then some .timebase
  else if address = 0x03 then some .profActive
  else if address = 0x04 then some .profStaged
  else if 0x08 ≤ address ∧ address ≤ 0x0B then some (.portCfg (Fin.ofNat 4 (address - 0x08)))
  else if 0x10 ≤ address ∧ address ≤ 0x17 then
    if address % 2 = 0 then some (.portStat0 (Fin.ofNat 4 ((address - 0x10) / 2)))
    else some (.portStat1 (Fin.ofNat 4 ((address - 0x10) / 2)))
  else if 0x20 ≤ address ∧ address ≤ 0x27 then some (.bankStat (Fin.ofNat 8 (address - 0x20)))
  else if address = 0x30 then some .holdStat
  else if address = 0x31 then some .logStat0
  else if address = 0x32 then some .logStat1
  else if address = 0x33 then some .logClass
  else if address = 0x34 then some .alertMask
  else if address = 0x35 then some .injStat
  else if address = 0x36 then some .mgmtStat
  else none

/-- The drain reason as DSTATE and SPI STATUS report it (Tables 10-2 and 11-2). -/
def drainCode : DevState → Nat
  | .draining (.profile _) => 1
  | .draining .quiesce => 2
  | _ => 0

/-- A profile as PROF_ACTIVE and PROF_STAGED report it (Table 11-2). -/
def profileWord (profile : Profile) : Nat :=
  profile.holdCeiling + profile.refreshInterval * 2 ^ 16 + profile.postponeLimit * 2 ^ 22 +
    profile.scrubOnCorrect.toNat * 2 ^ 25 + profile.logCorrected.toNat * 2 ^ 26 +
    (decide (profile.bankMap = .linear)).toNat * 2 ^ 27

/-- PORTCFGn (Table 11-3). -/
def configWord (config : PortConfig) : Nat :=
  config.enabled.toNat + config.tier.val * 2 + config.mgmtCapable.toNat * 2 ^ 3 + config.maskAttention.toNat * 2 ^ 4 +
    config.maskFreed.toNat * 2 ^ 5

/-- The link state code (Table 11-3). -/
def linkCode : LinkState → Nat
  | .down => 0
  | .training => 1
  | .active => 2
  | .retrain => 3
  | .failed => 4

/-- PORTSTATn word 0 (Table 11-3). -/
def portWord0 (port : Port) : Nat :=
  linkCode port.link.state + outstanding port * 2 ^ 3 + port.link.replay.length * 2 ^ 9 +
    port.link.retrains.toNat * 2 ^ 16

/-- PORTSTATn word 1 (Table 11-3). -/
def portWord1 (port : Port) : Nat := port.link.crcErrors.toNat + port.link.replays.toNat * 2 ^ 16

/-- BANKSTATn (Table 11-4). -/
def bankWord (bank : Bank) : Nat :=
  bank.owed + bank.owedMax * 2 ^ 4 + bank.queue.length * 2 ^ 8 + bank.parked * 2 ^ 12 + bank.corrected.toNat * 2 ^ 16

/-- The armed kind as INJSTAT reports it (Table 11-4). -/
def injectCode : InjectKind → Nat
  | .correctable => 1
  | .uncorrectable => 2

/-- INJSTAT (Table 11-4, R179). -/
def armWord (m : Mgmt) : Nat :=
  (match m.arm with
    | none => 0
    | some (unit, kind) => unit.toNat + injectCode kind * 2 ^ 24) + m.consumed.toNat * 2 ^ 31

/-- The word that a register reads (R176). -/
def State.readRegister (s : State) : Register → Nat
  | .devid => 0x80640001
  | .dstate => deviceCode s.device + drainCode s.device * 2 ^ 4
  | .timebase => s.tickCount.toNat
  | .profActive => profileWord s.active
  | .profStaged => profileWord s.staged
  | .portCfg p => configWord (s.port p).config
  | .portStat0 p => portWord0 (s.port p)
  | .portStat1 p => portWord1 (s.port p)
  | .bankStat b => bankWord (s.bank b)
  | .holdStat => s.activeHolds
  | .logStat0 => s.faults.log.length + s.faults.overflow.toNat * 2 ^ 16
  | .logStat1 => s.faults.nextSequence.toNat
  | .logClass => s.faults.classMask.toNat
  | .alertMask => s.faults.alertMask.toNat
  | .injStat => armWord s.mgmt
  | .mgmtStat => s.mgmt.queue.length

/-! ### Write actions (R177) -/

/-- The link counters of a port cleared (R23, R50, R177). -/
def clearCounters (link : Link) : Link := { link with crcErrors := 0, replays := 0, retrains := 0 }

/-- A write to BANKSTAT (R150, R177). -/
def clearBankStat (bank : Bank) : Bank := { bank with corrected := 0, owedMax := bank.owed }

/-- The write action of a register with the value written, none for a read-only register (R176, R177). -/
def State.writeRegister (s : State) (value : Nat) : Register → Option State
  | .portStat0 p | .portStat1 p => some (s.modLink p clearCounters)
  | .bankStat b => some (s.modBank b clearBankStat)
  | .logStat0 | .logStat1 => some (s.modFaults fun u => { u with overflow := 0 })
  | .logClass => some (s.modFaults fun u => { u with classMask := BitVec.ofNat 7 value })
  | .alertMask => some (s.modFaults fun u => { u with alertMask := BitVec.ofNat 7 value }).attentionTest
  | .devid | .dstate | .timebase | .profActive | .profStaged | .portCfg _ | .holdStat | .injStat | .mgmtStat => none

/-! ### Reported blocks -/

/-- The value of a fault code within its class (Table 9-2). -/
def codeValue : FaultCode → Nat
  | .unbound => 1
  | .nullAperture => 2
  | .staleBinding => 3
  | .deniedRights => 4
  | .badAlign => 5
  | .outOfBounds => 6
  | .noAperture => 7
  | .deniedPort => 8
  | .deniedTier => 9
  | .mgmtDenied => 10
  | .corrected => 1
  | .poisoned => 2
  | .retrainLocal => 1
  | .retrainRemote => 2
  | .linkFailed => 3
  | .hostReset => 4
  | .badAck => 5
  | .badRequest => 1
  | .shortRequest => 2
  | .tagReuse => 3
  | .ingressFull => 4
  | .responseLost => 5
  | .eventLost => 6
  | .holdBadAlign => 1
  | .holdBadSpan => 2
  | .holdOutOfBounds => 3
  | .holdExhausted => 4
  | .holdConflict => 5
  | .held => 6
  | .noHold => 7
  | .holdExpired => 8
  | .haltCommand => 1
  | .tableParity => 2
  | .rejected detail => detailCode detail
  | .selfTarget => 20
  | .spiRefused => 21
  | .spiBadOpcode => 22

/-- The 16-byte block of a fault record (Table 9-1). -/
def recordBlock (record : FaultRecord) : List Byte :=
  let fault := record.fault
  let present := classValue (faultClass fault.code) + fault.port.isSome.toNat * 2 ^ 3 + fault.tag.isSome.toNat * 2 ^ 4 +
    fault.slot.isSome.toNat * 2 ^ 5 + fault.aperture.isSome.toNat * 2 ^ 6 + fault.unit.isSome.toNat * 2 ^ 7
  leBytes 2 record.sequence.toNat ++ leBytes 1 present ++ leBytes 1 (codeValue fault.code) ++
    leBytes 1 ((fault.port.map Fin.val).getD 0 + (fault.slot.map Fin.val).getD 0 * 4) ++
    leBytes 1 ((fault.tag.map Fin.val).getD 0) ++ leBytes 2 ((fault.aperture.map Fin.val).getD 0) ++
    leBytes 3 ((fault.unit.map BitVec.toNat).getD 0) ++ [record.repeats] ++ leBytes 4 record.stamp.toNat

/-- The state of an aperture entry as it is reported (R172). -/
def entryCode : ApState → Nat
  | .free => 0
  | .live => 1
  | .retiring => 2

/-- The 16-byte snapshot of an aperture entry (R80, R172). -/
def entrySnapshot (entry : ApEntry) : List Byte :=
  leBytes 1 (entryCode entry.state) ++ leBytes 1 entry.generation.toNat ++ [granularityByte entry.granularity] ++
    [rightsByte entry.rights] ++ leBytes 1 entry.accessTier ++ leBytes 1 entry.portMask.toNat ++
    leBytes 1 entry.parityBad.toNat ++ leBytes 1 entry.bindings ++ leBytes 1 entry.inFlight ++
    leBytes 3 entry.base.toNat ++ leBytes 3 entry.limit.toNat ++ [0]

/-- The SPI command slot state as STATUS reports it (Table 10-2). -/
def slotCode : SpiSlot → Nat
  | .idle => 0
  | .queued => 1
  | .executing => 2
  | .done => 3

/-- The 8 bytes of SPI STATUS (Table 10-2). -/
def State.statusBytes (s : State) : List Byte :=
  [BitVec.ofNat 8 (slotCode s.mgmt.spiSlot), BitVec.ofNat 8 (s.mgmt.refused.toNat + 2 * s.mgmt.spiError.toNat),
   BitVec.ofNat 8 (deviceCode s.device), BitVec.ofNat 8 (drainCode s.device),
   BitVec.ofNat 8 (s.faults.alertRecord.toNat + 2 * (decide (s.faults.overflow ≠ 0)).toNat +
     4 * (decide (s.device = .halted)).toNat),
   BitVec.ofNat 8 s.mgmt.queue.length, 0, 0]

end Sys2Proof.Machine
end

