-- ==== Sys2Proof/Machine/MgmtOps.lean ====
section
/-! DEFINITION. The management sequencer and the SPI port: decoding of a block (R169), the effect of each command (R172 to R175),
execution with its record and result (R153, R170), and SPI submission (R166). -/

namespace Sys2Proof.Machine

/-! ### Outcomes and blocks -/

/-- The outcome of a command: OK with result data, MGMT_REJECTED with a detail code, or SELF_TARGET (R170). -/
inductive Outcome
  | ok (data : List Byte)
  | rejected (detail : Detail)
  | selfTarget
deriving DecidableEq, Repr

/-- The status of an outcome. -/
def outcomeStatus : Outcome → Status
  | .ok _ => .ok
  | .rejected _ => .mgmtRejected
  | .selfTarget => .selfTarget

/-- The detail code of an outcome. -/
def outcomeDetail : Outcome → Option Detail
  | .rejected detail => some detail
  | .ok _ | .selfTarget => none

/-- The result data of an outcome. -/
def outcomeData : Outcome → List Byte
  | .ok data => data
  | .rejected _ | .selfTarget => []

/-- A 20-byte result block (Table 10-3). Its code is the first byte of the block, 0 for an empty one. -/
def resultBlock (block : List Byte) (status : Status) (detail : Option Detail) (data : List Byte) : List Byte :=
  padded 20 ([byteAt block 0, BitVec.ofNat 8 (statusCode status), detailByte detail, 0] ++ data)

/-- The command that the code of a block names; a block shorter than 4 bytes names none (R169). -/
def namedCommand (block : List Byte) : Option Command :=
  if block.length < 4 then none else commandOf (byteAt block 0).toNat

/-- The command of a block that passes decoding (R169). -/
def blockCommand (block : List Byte) : Option Command :=
  match namedCommand block with
  | some command => if block.length = blockLength command then some command else none
  | none => none

/-- The sender of an in-band command. -/
def senderPort : Source → Option PortId
  | .spi => none
  | .port p _ => some p

/-- The tag of an in-band command. -/
def senderTag : Source → Option Tag
  | .spi => none
  | .port _ tag => some tag

/-! ### Register, aperture and log commands (R172) -/

/-- The register address of REG_READ and REG_WRITE. -/
def addressArgument (block : List Byte) : Nat := numberAt block 4 2

/-- REG_READ (R176). -/
def State.doRegRead (s : State) (block : List Byte) : State × Outcome :=
  match registerAt (addressArgument block) with
  | some register => (s, .ok (leBytes 4 (s.readRegister register)))
  | none => (s, .rejected .badRegister)

/-- REG_WRITE (R176, R177). -/
def State.doRegWrite (s : State) (block : List Byte) : State × Outcome :=
  match registerAt (addressArgument block) with
  | none => (s, .rejected .badRegister)
  | some register =>
    match s.writeRegister (numberAt block 8 4) register with
    | some after => (after, .ok [])
    | none => (s, .rejected .readOnly)

/-- The entry with the fields of a descriptor, LIVE (R74, R75). -/
def describe (descriptor : Descriptor) (entry : ApEntry) : ApEntry :=
  { entry with
    state := .live, base := descriptor.base, limit := descriptor.limit, granularity := descriptor.granularity,
    rights := descriptor.rights, accessTier := descriptor.accessTier, portMask := descriptor.portMask }

/-- APERTURE_CREATE (R74). -/
def State.doCreate (s : State) (block : List Byte) : State × Outcome :=
  match indexArgument block with
  | none => (s, .rejected .badIndex)
  | some i =>
    if (s.entry i).parityBad then (s.parityFail i, .rejected .wrongState)
    else if (s.entry i).state ≠ .free then (s, .rejected .notFree)
    else
      match descriptorOf block with
      | none => (s, .rejected .badDescriptor)
      | some descriptor =>
        (s.modEntry i (describe descriptor), .ok (leBytes 2 (handleOf i (s.entry i).generation 0).toNat))

/-- A copy names an index and a generation. -/
def copyNames (i : ApIndex) (generation : Generation) (copy : SlotCopy) : Bool :=
  decide (handleIndex copy.handle = i ∧ handleGeneration copy.handle = generation)

/-- The two tests of R76: the port is in the new port mask and the effective tier is permitted. -/
def stillPermitted (descriptor : Descriptor) (p : PortId) (copy : SlotCopy) : Bool :=
  descriptor.portMask.getLsbD p.val && decide (copy.effectiveTier ≤ descriptor.accessTier)

/-- A copy with the new values (R76). -/
def refreshCopy (descriptor : Descriptor) (copy : SlotCopy) : SlotCopy :=
  { copy with
    base := descriptor.base
    limit := BitVec.ofNat 22 (effectiveLimit descriptor.granularity descriptor.limit.toNat)
    granularity := descriptor.granularity, rights := descriptor.rights }

/-- A slot after the walk of a MODIFY (R76). -/
def modifiedSlot (i : ApIndex) (generation : Generation) (descriptor : Descriptor) (p : PortId) : Slot → Slot
  | .bound copy =>
    if copyNames i generation copy then
      if stillPermitted descriptor p copy then .bound (refreshCopy descriptor copy) else .stale copy
    else .bound copy
  | other => other

/-- The fields replaced, the walk and its SLOTS_STALE events (R75, R76). -/
def State.modifyEntry (s : State) (i : ApIndex) (descriptor : Descriptor) : State :=
  let generation := (s.entry i).generation
  ((s.modEntry i (describe descriptor)).walkSlots (modifiedSlot i generation descriptor)).raiseStaled s fun p copy =>
    copyNames i generation copy && !stillPermitted descriptor p copy

/-- APERTURE_MODIFY (R75). -/
def State.doModify (s : State) (block : List Byte) : State × Outcome :=
  match indexArgument block with
  | none => (s, .rejected .badIndex)
  | some i =>
    if (s.entry i).parityBad then (s.parityFail i, .rejected .wrongState)
    else if (s.entry i).state ≠ .live then (s, .rejected .notLive)
    else
      match descriptorOf block with
      | none => (s, .rejected .badDescriptor)
      | some descriptor => (s.modifyEntry i descriptor, .ok [])

/-- Steps 3 to 5 of APERTURE_RETIRE (R78): the events of the walk that began at `before`, the hold breaks, and the FREE
transition where nothing is in flight. -/
def State.finishRetire (s before : State) (i : ApIndex) : State :=
  let told := s.raiseStaled before fun _ copy => decide (handleIndex copy.handle = i)
  let broken := told.endHolds (.broken .retire) fun hold =>
    decide (hold.aperture = i ∧ hold.generation = (before.entry i).generation)
  if (broken.entry i).inFlight = 0 then broken.freeEntry i else broken

/-- The result data of APERTURE_RETIRE: the state and the generation of the entry (Table 10-5). -/
def retireData (entry : ApEntry) : List Byte :=
  [BitVec.ofNat 8 (entryCode entry.state), BitVec.ofNat 8 entry.generation.toNat]

/-- APERTURE_RETIRE (R78). -/
def State.doRetire (s : State) (block : List Byte) : State × Outcome :=
  match indexArgument block with
  | none => (s, .rejected .badIndex)
  | some i =>
    if (s.entry i).parityBad then (s.parityFail i, .rejected .wrongState)
    else if (s.entry i).state ≠ .live then (s, .rejected .notLive)
    else
      match (s.modEntry i fun entry => { entry with state := .retiring }).retireWalk i walkOrder with
      | (stopped, false) => (stopped.parityFail i, .rejected .wrongState)
      | (walked, true) =>
        let final := walked.finishRetire s i
        (final, .ok (retireData (final.entry i)))

/-- APERTURE_READ (R80). -/
def State.doRead (s : State) (block : List Byte) : State × Outcome :=
  match indexArgument block with
  | none => (s, .rejected .badIndex)
  | some i => (if (s.entry i).parityBad then s.parityFail i else s, .ok (entrySnapshot (s.entry i)))

/-- LOG_POP (R157). -/
def State.doLogPop (s : State) : State × Outcome :=
  match s.faults.log with
  | [] => (s, .rejected .logEmpty)
  | oldest :: rest =>
    ((s.modFaults fun u => { u with log := rest, episode := false }).attentionTest, .ok (recordBlock oldest))

/-- LOG_PEEK (R157). -/
def State.doLogPeek (s : State) (block : List Byte) : State × Outcome :=
  match s.faults.log[(byteAt block 4).toNat]? with
  | some record => (s, .ok (recordBlock record))
  | none => (s, .rejected .logEmpty)

/-- LOG_CLEAR (R157). -/
def State.doLogClear (s : State) : State × Outcome :=
  ((s.modFaults fun u => { u with log := [], overflow := 0, episode := false }).attentionTest, .ok [])

/-! ### Ports (R23, R173) -/

/-- Steps 1 and 2 of PORT_CONFIG (R173). -/
def State.withdraw (s : State) (p : PortId) (new : PortConfig) : State :=
  let old := (s.port p).config
  if old.enabled && !new.enabled then s.teardown p .disable
  else if old.tier ≠ new.tier then s.stalePortSlots p fun _ => true
  else s

/-- The device states in which PORT_CONFIG starts training (R173, step 4). -/
def configTrains : DevState → Bool
  | .ready | .draining _ => true
  | _ => false

/-- Steps 1 to 4 of PORT_CONFIG (R173). -/
def State.configure (s : State) (p : PortId) (new : PortConfig) : State :=
  let replaced := (s.withdraw p new).modPort p fun port => { port with config := new }
  if !(s.port p).config.enabled && new.enabled && decide ((replaced.link p).state = .down) &&
      configTrains replaced.device then
    replaced.modLink p beginFresh
  else replaced

/-- PORT_CONFIG with its BAD_PORT and self-target checks (R170, R173). -/
def State.doPortConfig (s : State) (source : Source) (block : List Byte) : State × Outcome :=
  match portArgument block with
  | none => (s, .rejected .badPort)
  | some p =>
    if senderPort source = some p ∧ (configArgument block).enabled = false then (s, .selfTarget)
    else (s.configure p (configArgument block), .ok [])

/-- The reset of a port: teardown, counters, and fresh training where it is permitted (R23). -/
def State.resetOfPort (s : State) (p : PortId) : State :=
  let cleared := (s.teardown p .portReset).modLink p clearCounters
  if (cleared.port p).config.enabled && cleared.device.linksRun then cleared.modLink p beginFresh else cleared

/-- PORT_RESET with its BAD_PORT and self-target checks (R23, R170). -/
def State.doPortReset (s : State) (source : Source) (block : List Byte) : State × Outcome :=
  match portArgument block with
  | none => (s, .rejected .badPort)
  | some p => if senderPort source = some p then (s, .selfTarget) else (s.resetOfPort p, .ok [])

/-! ### Profiles and device states -/

/-- PROFILE_STAGE (R7). -/
def State.doProfileStage (s : State) (block : List Byte) : State × Outcome :=
  match profileArgument block with
  | some profile => ({ s with staged := profile }, .ok [])
  | none => (s, .rejected .badProfile)

/-- The effect of an accepted PROFILE_COMMIT, by device state (R8). -/
def State.commit (s : State) : State :=
  match s.device with
  | .unconfigured => { s with active := s.staged }.enterInitializing
  | .initializing | .quiescent => { s with active := s.staged }
  | .ready => s.enterDraining (.profile s.staged)
  | .reset | .calibrating | .draining _ | .halted => s

/-- PROFILE_COMMIT with its lock check (R8). -/
def State.doProfileCommit (s : State) : State × Outcome :=
  if s.device ≠ .unconfigured ∧ s.staged.bankMap ≠ s.active.bankMap then (s, .rejected .profileLocked)
  else (s.commit, .ok [])

/-- QUIESCE (R12). -/
def State.doQuiesce (s : State) : State × Outcome := (s.enterDraining .quiesce, .ok [])

/-- RESUME: no effect in READY, entry to READY from DRAINING and QUIESCENT (R11, R15, R17). -/
def State.doResume (s : State) : State × Outcome := (if s.device = .ready then s else s.enterReady, .ok [])

/-- An entry in service on a freed aperture becomes orphaned (R21, R24). -/
def orphan (i : ApIndex) (bank : Bank) : Bank :=
  { bank with
    queue := bank.queue.map fun entry => if entry.aperture = i then { entry with orphaned := true } else entry }

/-- A RETIRING entry forced FREE by DATAPATH_RESET (R24, step 2), its parity made correct (R79). That this holds also of an
entry whose lookup failed in one of the teardowns of step 1, which R85 says is never freed before RESET_N, is DEDUCED: R24
and R79 name every RETIRING entry (notes/assumptions/22.md). -/
def State.forceFree (s : State) (i : ApIndex) : State :=
  ((s.modEntry i fun entry => { freedEntry entry with inFlight := 0 }).mapBanks (orphan i)).raiseFreed
    (s.entry i).portMask i

/-- The indices of the RETIRING entries, in ascending order. -/
def State.retiringIndices (s : State) : List ApIndex :=
  (List.finRange 1024).filter fun i => decide ((s.entry i).state = .retiring)

/-- Step 4 of DATAPATH_RESET: a drain ends in READY, with the pending profile of a PROFILE drain applied (R24). -/
def State.settleDrain (s : State) : State :=
  match s.device with
  | .draining (.profile next) => { s with active := next }.enterReady
  | .draining .quiesce => s.enterReady
  | _ => s

/-- DATAPATH_RESET (R24). A lookup that failed in its teardowns takes its effect at the end of the event, after the entry
has been forced FREE (R85; notes/assumptions/22.md). -/
def State.doDatapathReset (s : State) : State × Outcome :=
  let torn := allPorts.foldl (fun (s : State) (p : PortId) => s.teardownCore p .datapathReset) s
  let freed := torn.retiringIndices.foldl State.forceFree torn
  ((freed.modMgmt fun m => { m with arm := none, consumed := false }).settleDrain, .ok [])

/-- The hold that HOLD_BREAK names, none where its id is above 15 or its entry FREE (R138). -/
def State.holdArgument (s : State) (block : List Byte) : Option HoldId :=
  allHolds.find? fun h => decide (h.val = (byteAt block 4).toNat) && (s.hold h).isSome

/-- HOLD_BREAK (R138). -/
def State.doHoldBreak (s : State) (block : List Byte) : State × Outcome :=
  match s.holdArgument block with
  | some h => (s.endHold h (.broken .management), .ok [])
  | none => (s, .rejected .noHold)

/-- INJECT_ECC (R175, R179). -/
def State.doInjectEcc (s : State) (block : List Byte) : State × Outcome :=
  match armArgument block with
  | some arm => (s.modMgmt fun m => { m with arm := arm, consumed := false }, .ok [])
  | none => (s, .rejected .badDescriptor)

/-- HALT; its record carries the port of an in-band sender (R18, R174). -/
def State.doHalt (s : State) (source : Source) : State × Outcome :=
  (s.enterHalted { code := .haltCommand, port := senderPort source }, .ok [])

/-! ### Execution (R170) -/

/-- Steps 3 and 4 of R170: the checks and effects of a permitted command. -/
def State.commandEffect (s : State) (source : Source) (block : List Byte) : Command → State × Outcome
  | .regRead => s.doRegRead block
  | .regWrite => s.doRegWrite block
  | .apertureCreate => s.doCreate block
  | .apertureModify => s.doModify block
  | .apertureRetire => s.doRetire block
  | .apertureRead => s.doRead block
  | .portConfig => s.doPortConfig source block
  | .portReset => s.doPortReset source block
  | .logPop => s.doLogPop
  | .logPeek => s.doLogPeek block
  | .logClear => s.doLogClear
  | .profileStage => s.doProfileStage block
  | .profileCommit => s.doProfileCommit
  | .quiesce => s.doQuiesce
  | .resume => s.doResume
  | .datapathReset => s.doDatapathReset
  | .holdBreak => s.doHoldBreak block
  | .injectEcc => s.doInjectEcc block
  | .halt => s.doHalt source

/-- Steps 1 to 4 of R170 on a block: decoding, permission, checks and effects. -/
def State.runBlock (s : State) (source : Source) (block : List Byte) : State × Outcome :=
  match blockCommand block with
  | none => (s, .rejected .badDescriptor)
  | some command =>
    if permitted command s.device then s.commandEffect source block command else (s, .rejected .wrongState)

/-- The code of the MANAGEMENT record of an outcome, none where it offers none (R153). -/
def outcomeCode : Outcome → Option FaultCode
  | .ok _ => none
  | .rejected .notNow | .rejected .logEmpty => none
  | .rejected detail => some (.rejected detail)
  | .selfTarget => some .selfTarget

/-- The aperture index of a MANAGEMENT record (R153). -/
def recordIndex (block : List Byte) : Option ApIndex :=
  match blockCommand block with
  | some command =>
    if isApertureCommand command ∧ numberAt block 4 2 ≤ 1023 then some (Fin.ofNat 1024 (numberAt block 4 2)) else none
  | none => none

/-- Step 5 of R170: the MANAGEMENT record of an outcome (R153). -/
def State.recordOutcome (s : State) (source : Source) (block : List Byte) (outcome : Outcome) : State :=
  match outcomeCode outcome with
  | some code =>
    s.offer { code := code, port := senderPort source, tag := senderTag source, aperture := recordIndex block }
  | none => s

/-- The last result block written and the SPI command slot DONE (R166, R170). -/
def finishSpi (result : List Byte) (m : Mgmt) : Mgmt := { m with result := result, spiSlot := .done }

/-- Step 6 of R170: the result delivered. A port that was torn down within the execution no longer holds the tag of the
command. -/
def State.deliver (s : State) (source : Source) (block : List Byte) (outcome : Outcome) : State :=
  let status := outcomeStatus outcome
  let detail := outcomeDetail outcome
  let result := resultBlock block status detail (outcomeData outcome)
  match source with
  | .spi => s.modMgmt (finishSpi result)
  | .port p tag =>
    if s.tagHolder p tag = some .mgmt then
      (s.respond p { tag := tag, status := status, detail := detail, payload := result }).fenceTest p
    else s

/-- The command at the head leaves the management queue (R170, step 1). -/
def popCommand (m : Mgmt) : Mgmt := promoteSpi { m with queue := m.queue.tail }

/-- The end of an execution: the lookups that failed within its teardowns (R85), the record, the result, and the new attempts
that the execution prompts (R168). -/
def State.concluded (s : State) (command : QueuedCommand) (outcome : Outcome) : State :=
  ((s.finishParity.recordOutcome command.source command.block outcome).deliver command.source command.block
    outcome).promptAttempts

/-- The execution of the command at the head (R170). -/
def State.execute (s : State) (command : QueuedCommand) : State :=
  let effect := (s.modMgmt popCommand).runBlock command.source command.block
  effect.1.concluded command effect.2

/-- The command that the sequencer may execute now: the head of its queue, while no tick is due (R168). -/
def State.executable (s : State) : Option QueuedCommand := if s.ticksDue.isEmpty then s.mgmt.queue.head? else none

/-- The execution of the head command if its block meets a condition, once every event that is due has taken effect
(R168). -/
def State.execution (s : State) (which : List Byte → Bool) : State :=
  let settled := s.settle
  match settled.executable with
  | some command => if which command.block then settled.execute command else settled
  | none => settled

/-- The block names a command of the catalogue. -/
def names (command : Command) (block : List Byte) : Bool := decide (namedCommand block = some command)

/-- The block is a REG_WRITE to a register of a group. -/
def writesTo (group : Register → Bool) (block : List Byte) : Bool :=
  decide (blockCommand block = some .regWrite) && (registerAt (addressArgument block)).any group

/-! ### SPI transactions (R165, R166) -/

/-- A SUBMIT refused at once with a result block (R166, cases 1 and 3). -/
def State.refuseSubmit (s : State) (block : List Byte) (status : Status) (detail : Option Detail) : State :=
  s.modMgmt (finishSpi (resultBlock block status detail []))

/-- A block appended with source SPI (R166, case 4). -/
def State.appendSubmit (s : State) (block : List Byte) : State :=
  (s.modMgmt fun m =>
    { m with queue := m.queue ++ [{ source := .spi, block := block, placed := s.order }],
             spiSlot := if m.queue.isEmpty then .executing else .queued }).nextPlace

/-- A SUBMIT (R166). -/
def State.submit (s : State) (block : List Byte) : State :=
  if s.device = .calibrating then s.refuseSubmit block .mgmtRejected (some .notNow)
  else if s.mgmt.spiSlot = .queued ∨ s.mgmt.spiSlot = .executing then
    (s.modMgmt fun m => { m with refused := true }).offer { code := .spiRefused }
  else if Config.mgmtDepth ≤ s.mgmt.queue.length then s.refuseSubmit block .mgmtBusy none
  else s.appendSubmit (block.take Config.maxBlock)

/-- The bytes that an SPI transaction returns. -/
def State.drive (s : State) (bytes : Option (List Byte)) : State := s.modMgmt fun m => { m with miso := bytes }

end Sys2Proof.Machine
end

