-- ==== Sys2Proof/Machine/Management.lean ====
section
/-! DEFINITION. The meanings of the management commands: the execution of the command at the head of the management queue, where
its block names the command (R168 to R177). -/

namespace Sys2Proof.Machine

/-- REG_READ (R176). -/
def execRegRead (s : State) : Host.Outcome State Fault Refusal := .next (s.execution (names .regRead))

/-- REG_WRITE (R176). -/
def execRegWrite (s : State) : Host.Outcome State Fault Refusal := .next (s.execution (names .regWrite))

/-- The register is a word of a PORTSTAT (Table 11-1). -/
def isPortStat : Register → Bool
  | .portStat0 _ | .portStat1 _ => true
  | _ => false

/-- The register is a BANKSTAT (Table 11-1). -/
def isBankStat : Register → Bool
  | .bankStat _ => true
  | _ => false

/-- The register is a word of LOGSTAT (Table 11-1). -/
def isLogStat : Register → Bool
  | .logStat0 | .logStat1 => true
  | _ => false

/-- The register is LOGCLASS (Table 11-1). -/
def isLogClass : Register → Bool
  | .logClass => true
  | _ => false

/-- The register is ALERTMASK (Table 11-1). -/
def isAlertMask : Register → Bool
  | .alertMask => true
  | _ => false

/-- PORTSTAT_WRITE: a REG_WRITE to such a register (R177). -/
def execPortstatWrite (s : State) : Host.Outcome State Fault Refusal := .next (s.execution (writesTo isPortStat))

/-- BANKSTAT_WRITE: a REG_WRITE to such a register (R177). -/
def execBankstatWrite (s : State) : Host.Outcome State Fault Refusal := .next (s.execution (writesTo isBankStat))

/-- LOGSTAT_WRITE: a REG_WRITE to such a register (R177). -/
def execLogstatWrite (s : State) : Host.Outcome State Fault Refusal := .next (s.execution (writesTo isLogStat))

/-- LOGCLASS_WRITE: a REG_WRITE to such a register (R177). -/
def execLogclassWrite (s : State) : Host.Outcome State Fault Refusal := .next (s.execution (writesTo isLogClass))

/-- ALERTMASK_WRITE: a REG_WRITE to such a register (R177). -/
def execAlertmaskWrite (s : State) : Host.Outcome State Fault Refusal := .next (s.execution (writesTo isAlertMask))

/-- APERTURE_CREATE (R74). -/
def execApertureCreate (s : State) : Host.Outcome State Fault Refusal := .next (s.execution (names .apertureCreate))

/-- APERTURE_MODIFY (R75). -/
def execApertureModify (s : State) : Host.Outcome State Fault Refusal := .next (s.execution (names .apertureModify))

/-- APERTURE_RETIRE (R78). -/
def execApertureRetire (s : State) : Host.Outcome State Fault Refusal := .next (s.execution (names .apertureRetire))

/-- APERTURE_READ (R80). -/
def execApertureRead (s : State) : Host.Outcome State Fault Refusal := .next (s.execution (names .apertureRead))

/-- PORT_CONFIG (R173). -/
def execPortConfig (s : State) : Host.Outcome State Fault Refusal := .next (s.execution (names .portConfig))

/-- PORT_RESET (R23). -/
def execPortReset (s : State) : Host.Outcome State Fault Refusal := .next (s.execution (names .portReset))

/-- LOG_POP (R157). -/
def execLogPop (s : State) : Host.Outcome State Fault Refusal := .next (s.execution (names .logPop))

/-- LOG_PEEK (R157). -/
def execLogPeek (s : State) : Host.Outcome State Fault Refusal := .next (s.execution (names .logPeek))

/-- LOG_CLEAR (R157). -/
def execLogClear (s : State) : Host.Outcome State Fault Refusal := .next (s.execution (names .logClear))

/-- PROFILE_STAGE (R7). -/
def execProfileStage (s : State) : Host.Outcome State Fault Refusal := .next (s.execution (names .profileStage))

/-- PROFILE_COMMIT (R8). -/
def execProfileCommit (s : State) : Host.Outcome State Fault Refusal := .next (s.execution (names .profileCommit))

/-- QUIESCE (R12). -/
def execQuiesce (s : State) : Host.Outcome State Fault Refusal := .next (s.execution (names .quiesce))

/-- RESUME (R11, R15, R17). -/
def execResume (s : State) : Host.Outcome State Fault Refusal := .next (s.execution (names .resume))

/-- DATAPATH_RESET (R24). -/
def execDatapathReset (s : State) : Host.Outcome State Fault Refusal := .next (s.execution (names .datapathReset))

/-- HOLD_BREAK (R138). -/
def execHoldBreak (s : State) : Host.Outcome State Fault Refusal := .next (s.execution (names .holdBreak))

/-- INJECT_ECC (R175). -/
def execInjectEcc (s : State) : Host.Outcome State Fault Refusal := .next (s.execution (names .injectEcc))

/-- HALT (R18). -/
def execHalt (s : State) : Host.Outcome State Fault Refusal := .next (s.execution (names .halt))

/-- UNKNOWN_COMMAND_CODE: a block that names no command of the catalogue (R169). -/
def execUnknownCommandCode (s : State) : Host.Outcome State Fault Refusal :=
  .next (s.execution fun block => (namedCommand block).isNone)

end Sys2Proof.Machine
end

