-- ==== Sys2Proof/Machine/Requests.lean ====
section
/-! DEFINITION. The meanings of the takings of requests by kind (R53 to R62), of the answer of a waiting FENCE (R58) and of a new
attempt at admission (R64). -/

namespace Sys2Proof.Machine

/-- The event is the taking of port `p`, and its body meets a condition (R62). -/
def takesBody (p : PortId) (which : List Byte → Bool) (s : State) (due : Due) : Bool :=
  decide (due = .take p) && which ((s.port p).fifo.headD [])

/-- The body is a request of this kind. -/
def isKind (kind : RequestKind) (body : List Byte) : Bool := !tooShort body && decide ((headerOf body).kind = kind)

/-- SHORT_REQUEST (R53). -/
def execShortRequest (p : PortId) (s : State) : Host.Outcome State Fault Refusal :=
  .next (s.prompted (takesBody p tooShort))

/-- READ (R54). -/
def execRead (p : PortId) (s : State) : Host.Outcome State Fault Refusal :=
  .next (s.prompted (takesBody p (isKind .read)))

/-- WRITE (R54). -/
def execWrite (p : PortId) (s : State) : Host.Outcome State Fault Refusal :=
  .next (s.prompted (takesBody p (isKind .write)))

/-- WRITE_MASKED (R54). -/
def execWriteMasked (p : PortId) (s : State) : Host.Outcome State Fault Refusal :=
  .next (s.prompted (takesBody p (isKind .writeMasked)))

/-- ATOMIC (R55). -/
def execAtomic (p : PortId) (s : State) : Host.Outcome State Fault Refusal :=
  .next (s.prompted (takesBody p (isKind .atomic)))

/-- BIND (R56, R90). -/
def execBind (p : PortId) (s : State) : Host.Outcome State Fault Refusal :=
  .next (s.prompted (takesBody p (isKind .bind)))

/-- UNBIND (R56, R91). -/
def execUnbind (p : PortId) (s : State) : Host.Outcome State Fault Refusal :=
  .next (s.prompted (takesBody p (isKind .unbind)))

/-- QUERY_SLOT (R56, R92). -/
def execQuerySlot (p : PortId) (s : State) : Host.Outcome State Fault Refusal :=
  .next (s.prompted (takesBody p (isKind .querySlot)))

/-- HOLD_OPEN (R57, R128). -/
def execHoldOpen (p : PortId) (s : State) : Host.Outcome State Fault Refusal :=
  .next (s.prompted (takesBody p (isKind .holdOpen)))

/-- HOLD_RELEASE (R57, R135). -/
def execHoldRelease (p : PortId) (s : State) : Host.Outcome State Fault Refusal :=
  .next (s.prompted (takesBody p (isKind .holdRelease)))

/-- FENCE (R58). -/
def execFence (p : PortId) (s : State) : Host.Outcome State Fault Refusal :=
  .next (s.prompted (takesBody p (isKind .fence)))

/-- MGMT (R59). -/
def execMgmt (p : PortId) (s : State) : Host.Outcome State Fault Refusal :=
  .next (s.prompted (takesBody p (isKind .mgmt)))

/-- INVALID_REQUEST_KIND (R53). -/
def execInvalidRequestKind (p : PortId) (s : State) : Host.Outcome State Fault Refusal :=
  .next (s.prompted (takesBody p (isKind .invalid)))

/-- ADMISSION_REATTEMPT (R64). -/
def execAdmissionReattempt (p : PortId) (s : State) : Host.Outcome State Fault Refusal :=
  .next (s.prompted (isDue (.attempt p)))

/-! ### The answer of a waiting FENCE -/

/-- The OUTSTANDING tags of a port other than one. -/
def otherTags (port : Port) (own : Tag) : List Tag :=
  (List.finRange 32).filter fun tag => port.tags[tag].isSome && decide (tag ≠ own)

/-- The one tag that a waiting FENCE still waits for, if it is the only one (R58). -/
def fenceAwaits (port : Port) : Option Tag :=
  if port.head = .waitingFence then
    match otherTags port (headerOf (port.fifo.headD [])).tag with
    | [tag] => some tag
    | _ => none
  else none

/-- Bank `b` is serving the request of this port and tag. -/
def State.servesTag (s : State) (p : PortId) (tag : Tag) (b : BankId) : Bool :=
  (s.served b).any fun (entry, _, _) => decide (entry.port = p ∧ entry.tag = tag) && !entry.discarded

/-- The event that generates the response to the request of port `p` with this tag, where it may take place now: the
completion of its service, or the execution of its command. -/
def State.answerTag (s : State) (p : PortId) (tag : Tag) : State :=
  match allBanks.find? (s.servesTag p tag) with
  | some b =>
    match s.served b with
    | some (entry, scrub, log) => s.completeEntry b entry scrub log
    | none => s
  | none =>
    match s.executable with
    | some command => if command.source = .port p tag then s.execute command else s
    | none => s

/-- The event after which the FENCE that waits at the head of port `p` is answered (R58). -/
def State.answerFence (s : State) (p : PortId) : State :=
  if fenceDue (s.port p) then s.fenceTest p
  else
    match fenceAwaits (s.port p) with
    | some tag => s.answerTag p tag
    | none => s

/-- FENCE_ANSWER: the event after which the tag of the waiting FENCE is the port's only OUTSTANDING tag (R58). -/
def execFenceAnswer (p : PortId) (s : State) : Host.Outcome State Fault Refusal := .next (s.settle.answerFence p)

end Sys2Proof.Machine
end

