-- ==== Sys2Proof/Machine/Spi.lean ====
section
/-! DEFINITION. The meanings of the SPI transactions (R165, R166). While RESET_N is low the port ignores every transaction and
leaves SPI_MISO undriven (R4). -/

namespace Sys2Proof.Machine

/-- SPI STATUS at its event: the status bytes are returned, and the two flags are cleared (R165). -/
def State.spiStatusEvent (s : State) : State :=
  (s.drive (some s.statusBytes)).modMgmt fun m => { m with refused := false, spiError := false }

/-- SPI_STATUS (R165). -/
def execSpiStatus (s : State) : Host.Outcome State Fault Refusal :=
  let settled := s.settle
  .next (if settled.device = .reset then settled.drive none else settled.spiStatusEvent)

/-- SPI_RESULT (R165). -/
def execSpiResult (s : State) : Host.Outcome State Fault Refusal :=
  let settled := s.settle
  .next (settled.drive (if settled.device = .reset then none else some settled.mgmt.result))

/-- SPI_SUBMIT (R166). It goes before an in-band append that falls due at the same point (R167). -/
def execSpiSubmit (block : List Byte) (s : State) : Host.Outcome State Fault Refusal :=
  let settled := s.settleSubmit
  .next (if settled.device = .reset then settled.drive none else (settled.submit block).drive (some []))

/-- SPI_BAD_OPCODE (R165). The opcodes of Table 10-1 are no unknown ones. The record is offered in CALIBRATING as in every
state but RESET: R165 and R153 except no other, while R25 and R159 describe a log that stays empty through calibration.
That the model follows R165 there is DEDUCED (notes/assumptions/23.md). -/
def execSpiBadOpcode (opcode : Byte) (s : State) : Host.Outcome State Fault Refusal :=
  let settled := s.settle
  .next
    (if settled.device = .reset then settled.drive none
     else if opcode = 1 ∨ opcode = 2 ∨ opcode = 3 then settled
     else ((settled.modMgmt fun m => { m with spiError := true }).offer { code := .spiBadOpcode }).drive (some []))

end Sys2Proof.Machine
end

