-- ==== Sys2Proof/Machine/Dispatch.lean ====
section
/-! DEFINITION. The meaning of each command, one arm per row of spec/opcode_table.json. -/

namespace Sys2Proof.Machine

/-- The effect of a command on everything but the queue of commands. -/
def exec (i : Instr) (s : State) : Host.Outcome State Fault Refusal :=
  match i with
  | .resetNAssert => Sys2Proof.Machine.execResetNAssert s
  | .resetNRelease => Sys2Proof.Machine.execResetNRelease s
  | .tick => Sys2Proof.Machine.execTick s
  | .calibrationEnd => Sys2Proof.Machine.execCalibrationEnd s
  | .refreshObligation bank => Sys2Proof.Machine.execRefreshObligation bank s
  | .holdExpiry hold => Sys2Proof.Machine.execHoldExpiry hold s
  | .ackTimeout port => Sys2Proof.Machine.execAckTimeout port s
  | .trainingTimeout port => Sys2Proof.Machine.execTrainingTimeout port s
  | .memoryDisturbance unit health => Sys2Proof.Machine.execMemoryDisturbance unit health s
  | .tableDisturbance index bit => Sys2Proof.Machine.execTableDisturbance index bit s
  | .malformedParcel port frame => Sys2Proof.Machine.execMalformedParcel port frame s
  | .receiveData port seq ack body => Sys2Proof.Machine.execReceiveData port seq ack body s
  | .receiveAck port ack => Sys2Proof.Machine.execReceiveAck port ack s
  | .receiveNak port ack => Sys2Proof.Machine.execReceiveNak port ack s
  | .receiveTrainReq port => Sys2Proof.Machine.execReceiveTrainReq port s
  | .hostReset port => Sys2Proof.Machine.execHostReset port s
  | .receiveRetrainReq port ack => Sys2Proof.Machine.execReceiveRetrainReq port ack s
  | .receiveTrainAck port fresh ack => Sys2Proof.Machine.execReceiveTrainAck port fresh ack s
  | .sendTrainAck port => Sys2Proof.Machine.execSendTrainAck port s
  | .sendTrainReq port => Sys2Proof.Machine.execSendTrainReq port s
  | .sendNak port => Sys2Proof.Machine.execSendNak port s
  | .sendRetransmit port => Sys2Proof.Machine.execSendRetransmit port s
  | .sendNewData port => Sys2Proof.Machine.execSendNewData port s
  | .sendAck port => Sys2Proof.Machine.execSendAck port s
  | .shortRequest port => Sys2Proof.Machine.execShortRequest port s
  | .read port => Sys2Proof.Machine.execRead port s
  | .write port => Sys2Proof.Machine.execWrite port s
  | .writeMasked port => Sys2Proof.Machine.execWriteMasked port s
  | .atomic port => Sys2Proof.Machine.execAtomic port s
  | .bind port => Sys2Proof.Machine.execBind port s
  | .unbind port => Sys2Proof.Machine.execUnbind port s
  | .querySlot port => Sys2Proof.Machine.execQuerySlot port s
  | .holdOpen port => Sys2Proof.Machine.execHoldOpen port s
  | .holdRelease port => Sys2Proof.Machine.execHoldRelease port s
  | .fence port => Sys2Proof.Machine.execFence port s
  | .mgmt port => Sys2Proof.Machine.execMgmt port s
  | .fenceAnswer port => Sys2Proof.Machine.execFenceAnswer port s
  | .admissionReattempt port => Sys2Proof.Machine.execAdmissionReattempt port s
  | .bankDecision bank => Sys2Proof.Machine.execBankDecision bank s
  | .readService bank => Sys2Proof.Machine.execReadService bank s
  | .writeService bank => Sys2Proof.Machine.execWriteService bank s
  | .writeMaskedService bank => Sys2Proof.Machine.execWriteMaskedService bank s
  | .atomicService bank => Sys2Proof.Machine.execAtomicService bank s
  | .clearingService bank => Sys2Proof.Machine.execClearingService bank s
  | .refreshComplete bank => Sys2Proof.Machine.execRefreshComplete bank s
  | .drainComplete => Sys2Proof.Machine.execDrainComplete s
  | .spiStatus => Sys2Proof.Machine.execSpiStatus s
  | .spiResult => Sys2Proof.Machine.execSpiResult s
  | .spiSubmit block => Sys2Proof.Machine.execSpiSubmit block s
  | .spiBadOpcode opcode => Sys2Proof.Machine.execSpiBadOpcode opcode s
  | .regRead => Sys2Proof.Machine.execRegRead s
  | .regWrite => Sys2Proof.Machine.execRegWrite s
  | .portstatWrite => Sys2Proof.Machine.execPortstatWrite s
  | .bankstatWrite => Sys2Proof.Machine.execBankstatWrite s
  | .logstatWrite => Sys2Proof.Machine.execLogstatWrite s
  | .logclassWrite => Sys2Proof.Machine.execLogclassWrite s
  | .alertmaskWrite => Sys2Proof.Machine.execAlertmaskWrite s
  | .apertureCreate => Sys2Proof.Machine.execApertureCreate s
  | .apertureModify => Sys2Proof.Machine.execApertureModify s
  | .apertureRetire => Sys2Proof.Machine.execApertureRetire s
  | .apertureRead => Sys2Proof.Machine.execApertureRead s
  | .portConfig => Sys2Proof.Machine.execPortConfig s
  | .portReset => Sys2Proof.Machine.execPortReset s
  | .logPop => Sys2Proof.Machine.execLogPop s
  | .logPeek => Sys2Proof.Machine.execLogPeek s
  | .logClear => Sys2Proof.Machine.execLogClear s
  | .profileStage => Sys2Proof.Machine.execProfileStage s
  | .profileCommit => Sys2Proof.Machine.execProfileCommit s
  | .quiesce => Sys2Proof.Machine.execQuiesce s
  | .resume => Sys2Proof.Machine.execResume s
  | .datapathReset => Sys2Proof.Machine.execDatapathReset s
  | .holdBreak => Sys2Proof.Machine.execHoldBreak s
  | .injectEcc => Sys2Proof.Machine.execInjectEcc s
  | .halt => Sys2Proof.Machine.execHalt s
  | .invalidRequestKind port => Sys2Proof.Machine.execInvalidRequestKind port s
  | .unknownCommandCode => Sys2Proof.Machine.execUnknownCommandCode s

end Sys2Proof.Machine
end

