-- ==== Sys2Proof/Machine/Step.lean ====
section
/-! DEFINITION. The step: the command at the front of the queue takes effect on the part. -/

namespace Sys2Proof.Machine

/-- The command at the front of the queue leaves it and takes effect; on an empty queue the part idles
(notes/assumptions/3.md). -/
def step (s : State) : Host.Outcome State Fault Refusal :=
  match s.pending with
  | [] => .next s
  | command :: rest => exec command { s with pending := rest }

/-- The command that a word spells put at the front of the queue; no word spells one. -/
def State.withFetchWord (s : State) (nbits w : Nat) : State :=
  match decodeTableWord nbits w with
  | some command => { s with pending := command :: s.pending }
  | none => s

end Sys2Proof.Machine
end

