-- ==== Sys2Proof/Safety.lean ====
section
/-! DEFINITION. What the claims are stated in: when the part is settled, when a command may execute or a body be taken, what may be
read of memory, and the invariants of the part. No step of the JB8064 is unsafe: every command has an outcome in every state. -/

namespace Sys2Proof.Machine

/-! ### When a command acts at once -/

/-- No prompted event is due, so a command acts on this very state (R1). -/
abbrev State.Settled (s : State) : Prop := s.nextDue = none

/-- A tick that falls due takes effect at once (R142): RESET_N is high, no tick is due, every bank is IDLE and no ACK is
owed. -/
abbrev State.TickFree (s : State) : Prop :=
  s.Settled ∧ s.device ≠ .reset ∧ s.ticksDue = [] ∧ (∀ b, (s.bank b).state = .idle) ∧
    ∀ p, (s.link p).ackOwed = false

/-- The row of the opcode table that takes a request of a kind. -/
def takingOf : RequestKind → PortId → Instr
  | .read => .read
  | .write => .write
  | .writeMasked => .writeMasked
  | .atomic => .atomic
  | .bind => .bind
  | .unbind => .unbind
  | .querySlot => .querySlot
  | .holdOpen => .holdOpen
  | .holdRelease => .holdRelease
  | .fence => .fence
  | .mgmt => .mgmt
  | .invalid => .invalidRequestKind

/-- The row of the opcode table that completes the service of an entry. -/
def completionOf : EntryOp → BankId → Instr
  | .read => .readService
  | .write _ => .writeService
  | .writeMasked _ _ => .writeMaskedService
  | .atomic _ _ _ _ => .atomicService

/-- The taking of this body at the head of port `p` is due next, and the body has a header (R62). -/
abbrev State.Takes (s : State) (p : PortId) (body : List Byte) (rest : List (List Byte)) : Prop :=
  s.nextDue = some (.take p) ∧ (s.port p).fifo = body :: rest ∧ 8 ≤ body.length

/-- The body that is taken passes the tag test, the device-state gate and the format check with this kind (R53, R61, R63). -/
abbrev State.Passes (s : State) (p : PortId) (body : List Byte) (kind : RequestKind) : Prop :=
  (headerOf body).kind = kind ∧ s.tagHolder p (headerOf body).tag = none ∧ gate s.device kind = none ∧
    formatOk (headerOf body) body.length = true

/-- The sequencer executes this command next: nothing is due, no tick is due, and it is at the head of the queue (R168). -/
abbrev State.Heads (s : State) (command : QueuedCommand) : Prop :=
  s.Settled ∧ s.ticksDue = [] ∧ s.mgmt.queue.head? = some command

/-- The head command is this one of the catalogue, it decodes, and it is permitted in the device state (R169, R171). -/
abbrev State.Executes (s : State) (command : QueuedCommand) (which : Command) : Prop :=
  s.Heads command ∧ blockCommand command.block = some which ∧ permitted which s.device = true

/-- The state in which the effects of an executing command begin: it has left the queue (R170, step 1). -/
abbrev State.popped (s : State) : State := s.modMgmt popCommand

/-! ### Frames -/

/-- The port differs from an earlier one in nothing but its link engine. -/
abbrev SamePortButLink (before after : Port) : Prop := { after with link := before.link } = before

/-- Nothing but the link engine of port `p` differs, and which ports the ticks due still wait for. -/
abbrev OnlyLink (p : PortId) (s t : State) : Prop :=
  SamePortButLink (s.port p) (t.port p) ∧ (∀ q, q ≠ p → t.port q = s.port q) ∧
    { t with ports := s.ports, ticksDue := s.ticksDue } = s

/-- Nothing but port `p` differs. -/
abbrev OnlyPort (p : PortId) (s t : State) : Prop := (∀ q, q ≠ p → t.port q = s.port q) ∧ { t with ports := s.ports } = s

/-- Nothing but the management sequencer and the SPI port differs. -/
abbrev OnlyMgmt (s t : State) : Prop := { t with mgmt := s.mgmt } = s

/-- What the completion of the service of an entry does on its port (R21, R119, step 3): the response joins the egress queue and
the tag becomes FREE; a discarded entry answers nothing and touches no tag, where no FENCE waits behind it. -/
abbrev Answered (s t : State) (entry : Entry) (response : Response) : Prop :=
  (entry.discarded = false → (s.port entry.port).egress.length < 32 →
    (∃ placed, (s.port entry.port).egress ++ [{ placed := placed, response := response }] <+: (t.port entry.port).egress) ∧
      t.tagHolder entry.port entry.tag = none) ∧
  (entry.discarded = true → (s.port entry.port).head ≠ .waitingFence →
    (t.port entry.port).egress = (s.port entry.port).egress ∧
      ∀ tag, t.tagHolder entry.port tag = s.tagHolder entry.port tag)

/-- What teardown of a port leaves of it, beside its link (R20, steps 2 to 7). -/
structure TornDown (p : PortId) (s t : State) : Prop where
  fifo : (t.port p).fifo = []
  head : (t.port p).head = .none
  tags : ∀ tag, t.tagHolder p tag = none
  egress : (t.port p).egress = []
  replay : (t.link p).replay = []
  slots : ∀ k, t.slot p k = .empty
  holds : ∀ h hold, t.hold h = some hold → hold.owner ≠ p
  entries : ∀ b, ∀ entry ∈ (t.bank b).queue, entry.port = p → entry.discarded = true
  commands : ∀ command ∈ t.mgmt.queue, fromPort p command = false
  config : (t.port p).config = (s.port p).config

/-- The admission of a request of port `p` as an entry (R105, R106): the entry is appended to its bank queue, the in-flight
count of its aperture rises, its tag becomes OUTSTANDING with holder BANK, and its body leaves the FIFO. -/
structure Admitted (p : PortId) (header : Header) (entry : Entry) (bank : BankId) (s t : State) : Prop where
  queue : (t.bank bank).queue = (s.bank bank).queue ++ [entry]
  parked : (t.bank bank).parked = (s.bank bank).parked + entry.parkedOn.isSome.toNat
  others : ∀ b, b ≠ bank → t.bank b = s.bank b
  work : (t.bank bank).state = (s.bank bank).state
  inFlight : (t.entry entry.aperture).inFlight = (s.entry entry.aperture).inFlight + 1
  entries : ∀ i, i ≠ entry.aperture → t.entry i = s.entry i
  tag : t.tagHolder p header.tag = some .bank
  tags : ∀ tag, tag ≠ header.tag → t.tagHolder p tag = s.tagHolder p tag
  fifo : (t.port p).fifo = (s.port p).fifo.tail
  head : (t.port p).head = .none
  ports : ∀ q, q ≠ p → t.port q = s.port q
  rest : { t with ports := s.ports, banks := s.banks, apertures := s.apertures, order := s.order } = s

/-- The slot caches this aperture index: it is BOUND or STALE with a copy that names it (R81). -/
abbrev cachesIndex (slot : Slot) (i : ApIndex) : Bool :=
  match slot with
  | .bound copy | .stale copy => decide (handleIndex copy.handle = i)
  | .empty | .nullBound => false

/-- Slot `k` of port `p` becomes `new`, every other slot is kept, and nothing of the aperture table changes but the binding
counts of the old and the new index (R81). -/
abbrev SlotChanged (p : PortId) (k : SlotId) (new : Slot) (s t : State) : Prop :=
  t.slot p k = new ∧ (∀ q j, q ≠ p ∨ j ≠ k → t.slot q j = s.slot q j) ∧
    ∀ i, t.entry i =
      { s.entry i with
        bindings := (s.entry i).bindings + (cachesIndex new i).toNat - (cachesIndex (s.slot p k) i).toNat }

/-! ### Events -/

/-- The events that a port has queued, the oldest first. -/
abbrev State.eventsOf (s : State) (p : PortId) : List Event := (s.port p).events.map QueuedEvent.event

/-- These events and no record: where no event queue overflows, each port whose link is then up has its events at the tail
of its queue, in this order, and the fault log and its flags are as before (R160, R161). -/
abbrev Raised (s t : State) (events : PortId → List Event) : Prop :=
  (∀ p, (s.port p).events.length + (events p).length ≤ Config.eventDepth) →
    t.faults = s.faults ∧
      ∀ p, t.eventsOf p = s.eventsOf p ++ if (t.link p).state ∈ [.down, .failed] then [] else events p

/-- The SLOTS_STALE event of a port, where a slot of it went from BOUND to STALE: bit i of its set is Si (R76, R78, R93). -/
def staleEvents (s t : State) (p : PortId) : List Event :=
  let fresh := allSlots.filter fun k =>
    match s.slot p k, t.slot p k with
    | .bound _, .stale _ => true
    | _, _ => false
  if fresh = [] then [] else [.slotsStale (BitVec.ofNat 8 (fresh.map fun k => 2 ^ k.val).sum)]

/-- The HOLD_BROKEN events of a port for its ACTIVE holds that meet a condition, in ascending order of id (R134, R137). -/
def brokenEvents (s : State) (reason : BreakReason) (which : Hold → Bool) (p : PortId) : List Event :=
  (allHolds.filter fun h => (s.hold h).any fun hold => decide (hold.owner = p) && which hold).map fun h =>
    .holdBroken h reason

/-- The completion of an entry reports nothing but its DATA records: its response and that of a FENCE are not lost, and no
aperture is freed or fails its parity check (R48, R119). -/
abbrev State.ReportsOnlyData (s : State) (entry : Entry) : Prop :=
  (s.port entry.port).egress.length < 31 ∧
    (entry.orphaned = true ∨ 2 ≤ (s.entry entry.aperture).inFlight ∨
      (s.entry entry.aperture).parityBad = false ∧ (s.entry entry.aperture).state ≠ .retiring)

/-! ### Reads of memory -/

/-- The byte of the memory array at a byte address. -/
abbrev State.byteOf (s : State) (address : Nat) : Byte := sparseRead 0 s.memory address

/-- A byte address lies in one of the units of a transfer. -/
abbrev inUnits (first : UnitAddr) (length address : Nat) : Prop :=
  first.toNat ≤ address / Config.unitBytes ∧ address / Config.unitBytes < first.toNat + length

/-! ### Invariants -/

/-- No lookup that failed within a teardown waits for its effect (R85): between two commands none does. -/
abbrev State.ParitySettled (s : State) : Prop := s.parityPending = []

/-- Memory and unit health keep their canonical form, within the device. -/
structure State.MemoryWf (s : State) : Prop where
  data : sparseWf 0 s.memory
  health : sparseWf .clean s.health

/-- Every queue keeps within its capacity (R26, R48, R51, R103, R107, R151, R164). -/
structure State.Bounded (s : State) : Prop where
  fifo : ∀ p, (s.port p).fifo.length ≤ Config.fifoDepth
  egress : ∀ p, (s.port p).egress.length ≤ Config.egressDepth
  events : ∀ p, (s.port p).events.length ≤ Config.eventDepth
  replay : ∀ p, (s.link p).replay.length ≤ Config.replayDepth
  queue : ∀ b, (s.bank b).queue.length ≤ Config.bankDepth
  log : s.faults.log.length ≤ Config.logDepth
  mgmt : s.mgmt.queue.length ≤ Config.mgmtDepth

/-- The number of slots, across all ports, that are BOUND or STALE with a cached index (R81). -/
def State.slotsNaming (s : State) (i : ApIndex) : Nat :=
  (allPorts.flatMap fun p => allSlots.filter fun k => decide (slotIndex (s.slot p k) = some i)).length

/-- The number of queue entries, waiting, parked or in service, that name an index and are not orphaned (R82). -/
def State.entriesNaming (s : State) (i : ApIndex) : Nat :=
  (allBanks.flatMap fun b => (s.bank b).queue.filter fun entry => decide (entry.aperture = i) && !entry.orphaned).length

/-- Every binding count is the number of slots that name its index (R81). -/
abbrev State.BindingsCounted (s : State) : Prop := ∀ i, (s.entry i).bindings = s.slotsNaming i

/-- Every link is DOWN in the states in which no link runs (R6, R17). -/
abbrev State.LinksDown (s : State) : Prop := s.device.linksRun = false → ∀ p, (s.link p).state = .down

/-- The attention flag is set exactly while the attention condition holds (R158). -/
abbrev State.AttentionKept (s : State) : Prop := s.faults.attention = s.faults.condition

/-- The unit ranges of two ACTIVE holds never share a unit (R130), and no port owns more than four (R130). -/
structure State.HoldsApart (s : State) : Prop where
  apart : ∀ g h, g ≠ h → ∀ first second, s.hold g = some first → s.hold h = some second →
    overlaps first.first first.span second.first second.span = false
  owned : ∀ p, s.ownedHolds p ≤ Config.holdsPerPort

/-- At most one queued command came over SPI, and the slot state describes it or its absence (R164). -/
structure State.SpiSlotKept (s : State) : Prop where
  one : (s.mgmt.queue.filter fun command => decide (command.source = .spi)).length ≤ 1
  executing : s.mgmt.spiSlot = .executing ↔ s.mgmt.queue.head?.map QueuedCommand.source = some .spi
  queued : s.mgmt.spiSlot = .queued ↔
    (∃ command ∈ s.mgmt.queue, command.source = .spi) ∧ s.mgmt.queue.head?.map QueuedCommand.source ≠ some .spi

end Sys2Proof.Machine
end

