-- ==== Sys2Proof/Certificates/Slice0/Obligations.lean ====
section
/-! DEFINITION. The statements for the provers. A statement of what a command does is an equation for its next state, or says that
there is one and what it holds; `s.Settled` says that no prompted event goes before the command (the model's order of prompted events is
notes/assumptions/2.md). -/

open Sys2Proof Sys2Proof.Machine

/-! ### The machine and its reset -/

/-- A step runs the command at the front of the queue on the part with the queue's rest, one event of the order of R1; on an
empty queue the part idles (the model's choice, notes/assumptions/3.md). -/
def Obligations.StepRunsTheFrontCommand : Prop :=
  (∀ (i : Instr) (s : State), step { s with pending := i :: s.pending } = exec i s) ∧
    ∀ s : State, s.pending = [] → step s = .next s

/-- RESET_N asserted from any state: every piece of state takes its reset value, the register words read as Table 11-1 gives
them, ALERT_N is not asserted and memory is not touched; released, it starts CALIBRATING and changes nothing else (R3, R4, R5,
R25, R26, R51, R70, R103, R127, R151, R164). The model's choices: that it waits for nothing, keeps the waiting commands and that
a release with RESET_N high changes nothing (notes/assumptions/18.md), and the values of the model's own fields
(notes/assumptions/2.md, 4.md, 12.md and 15.md). -/
def Obligations.ResetAssertAndRelease : Prop :=
  (∀ s : State, ∃ t, exec .resetNAssert s = .next t ∧
    t.device = .reset ∧ t.tickCount = 0 ∧
    (∀ profile ∈ [t.staged, t.active], profile =
      { bankMap := .interleave, refreshInterval := 4, postponeLimit := 4, scrubOnCorrect := true, logCorrected := false,
        holdCeiling := 4096 }) ∧
    (∀ p, t.link p =
      { state := .down, fresh := false, sendSeq := 0, recvSeq := 0, replay := [], retransmit := none,
        nakPending := false, ackOwed := false, replayAttempts := 0, ackTimer := 0, trainAttempts := 0, trainTimer := 0,
        requestAnswered := false, answerReceived := false, hostExpected := none, crcErrors := 0, replays := 0,
        retrains := 0, trainAckWaiting := false, trainReqWaiting := false, nakWaiting := false, sent := none }) ∧
    (∀ p, (t.port p).fifo = [] ∧ (t.port p).head = .none ∧ (t.port p).waitingSince = 0 ∧
      (t.port p).attemptDue = false ∧ (∀ tag, t.tagHolder p tag = none) ∧ (t.port p).egress = [] ∧
      (t.port p).config =
        { enabled := true, tier := 3, mgmtCapable := false, maskAttention := false, maskFreed := false } ∧
      (∀ k, t.slot p k = .empty) ∧ (t.port p).events = [] ∧ (t.port p).eventsLost = false) ∧
    (∀ i, t.entry i =
      { state := .free, generation := 0, base := 0, limit := 0, granularity := .unit,
        rights := { read := false, write := false, atomic := false }, accessTier := 0, portMask := 0,
        parityBad := false, bindings := 0, inFlight := 0 }) ∧
    (∀ h, t.hold h = none) ∧
    (∀ b, t.bank b =
      { state := .idle, queue := [], parked := 0, owed := 0, sinceRefresh := 0, owedMax := 0, clearPosition := 0,
        corrected := 0, decisionDue := false }) ∧
    t.faults =
      { log := [], nextSequence := 0, overflow := 0, episode := false, attention := false, classMask := 0x7F,
        alertMask := 0x22 } ∧
    t.mgmt =
      { queue := [], spiSlot := .idle, refused := false, spiError := false, result := List.replicate 20 0, arm := none,
        consumed := false, miso := none } ∧
    t.ticksDue = [] ∧ t.tickDecisions = false ∧ t.parityPending = [] ∧ t.order = 0 ∧ t.pending = s.pending ∧
    (∀ row ∈ ([(0x00, 0x80640001), (0x01, 0), (0x02, 0), (0x03, 0x03041000), (0x04, 0x03041000), (0x08, 7), (0x09, 7),
        (0x0A, 7), (0x0B, 7), (0x10, 0), (0x11, 0), (0x12, 0), (0x13, 0), (0x14, 0), (0x15, 0), (0x16, 0), (0x17, 0),
        (0x20, 0), (0x21, 0), (0x22, 0), (0x23, 0), (0x24, 0), (0x25, 0), (0x26, 0), (0x27, 0), (0x30, 0), (0x31, 0),
        (0x32, 0), (0x33, 0x7F), (0x34, 0x22), (0x35, 0), (0x36, 0)] : List (Nat × Nat)),
      ∃ register, registerAt row.1 = some register ∧ t.readRegister register = row.2) ∧
    t.alertAsserted = false ∧ t.memory = s.memory ∧ t.health = s.health) ∧
  ((∀ s : State, s.device = .reset → exec .resetNRelease s = .next { s with device := .calibrating }) ∧
    ∀ s : State, s.device ≠ .reset → exec .resetNRelease s = .next s)

/-! ### Ticks -/

/-- A tick that can take effect at once (R142, R143, R145, R136): the count goes up by one; every bank advances its refresh
counters; every ACTIVE hold counts down and ends at 0, and where no link is in RETRAIN the others stay; memory is not
touched. -/
def Obligations.TickTakesEffect : Prop :=
  ∀ s : State, s.TickFree → ∃ t, exec .tick s = .next t ∧
    t.tickCount = s.tickCount + 1 ∧ t.ticksDue = [] ∧ t.memory = s.memory ∧ t.health = s.health ∧
    (∀ b, if s.active.refreshInterval ≤ (s.bank b).sinceRefresh + 1 then
        (t.bank b).sinceRefresh = 0 ∧ (t.bank b).owed = (s.bank b).owed + 1 ∧
          (t.bank b).owedMax = max (s.bank b).owedMax ((s.bank b).owed + 1)
      else
        (t.bank b).sinceRefresh = (s.bank b).sinceRefresh + 1 ∧ (t.bank b).owed = (s.bank b).owed ∧
          (t.bank b).owedMax = (s.bank b).owedMax) ∧
    (∀ h, s.hold h = none → t.hold h = none) ∧
    (∀ h hold, s.hold h = some hold → hold.remaining ≤ 1 → t.hold h = none) ∧
    ((∀ p, (s.link p).state ≠ .retrain) → ∀ h hold, s.hold h = some hold → 1 < hold.remaining →
      t.hold h = some { hold with remaining := hold.remaining - 1 })

/-- A tick that cannot take effect at once waits, with the ports that owed an ACK; while RESET_N is low no tick falls due
(R142). -/
def Obligations.TickWaitsOrIsHeld : Prop :=
  (∀ s : State, s.Settled → s.device ≠ .reset →
    (s.ticksDue ≠ [] ∨ (∃ b, (s.bank b).state ≠ .idle) ∨ ∃ p, (s.link p).ackOwed = true) →
      exec .tick s = .next { s with ticksDue := s.ticksDue ++ [s.ackOwedSet] }) ∧
    (∀ (s : State) (p : PortId), s.ackOwedSet.getLsbD p.val = (s.link p).ackOwed) ∧
    ∀ s : State, s.Settled → s.device = .reset → exec .tick s = .next s

/-- The tick that brings the count to 150 in CALIBRATING ends it (R5, R25); a tick at which the ticks-since-refresh counter
reaches the refresh interval gives the bank an obligation (R145). That these rows act on such a tick alone is
notes/assumptions/4.md. -/
def Obligations.CalibrationEndsAndObligationsFall : Prop :=
  (∀ s : State, s.TickFree → s.ParitySettled → s.device = .calibrating → s.tickCount = 149 → (∀ p, (s.link p).state = .down) →
    ∃ t, exec .calibrationEnd s = .next t ∧ t.device = .unconfigured ∧ t.tickCount = 150 ∧
      (∀ p, (t.link p).state = .down) ∧ t.apertures = s.apertures ∧ t.mgmt = s.mgmt ∧ t.memory = s.memory ∧
      t.health = s.health ∧ t.staged = s.staged ∧ t.active = s.active) ∧
  (∀ (s : State) (b : BankId), s.TickFree → s.active.refreshInterval ≤ (s.bank b).sinceRefresh + 1 →
    ∃ t, exec (.refreshObligation b) s = .next t ∧ (t.bank b).owed = (s.bank b).owed + 1 ∧ (t.bank b).sinceRefresh = 0 ∧
      (t.bank b).owedMax = max (s.bank b).owedMax ((s.bank b).owed + 1) ∧ (t.bank b).decisionDue = true ∧
      (t.bank b).state = .idle ∧ t.tickCount = s.tickCount + 1 ∧ t.memory = s.memory ∧ t.health = s.health)

/-- A hold whose remaining ticks reach 0 expires, and no entry stays parked on it (R134, R136): its owner gets HOLD_EXPIRED and
a HOLD record is offered; the end of a hold reports as its cause says and re-tests every entry parked on it against the ACTIVE
holds (the row acts on such a tick alone, notes/assumptions/4.md). -/
def Obligations.HoldExpires : Prop :=
  (∀ (s : State) (h : HoldId) (hold : Hold), s.TickFree → s.hold h = some hold → hold.remaining = 1 →
    ∃ t, exec (.holdExpiry h) s = .next t ∧ t.hold h = none ∧
      (∀ b, ∀ entry ∈ (t.bank b).queue, entry.parkedOn ≠ some h) ∧ t.tickCount = s.tickCount + 1 ∧
      t.memory = s.memory ∧ t.health = s.health ∧
      ((∀ g other, g ≠ h → s.hold g = some other → 1 < other.remaining) → (∀ p, (s.link p).state ≠ .retrain) →
        ((s.link hold.owner).state ∉ [.down, .failed] → (s.port hold.owner).events.length < 8 →
          s.eventsOf hold.owner ++ [.holdExpired h] <+: t.eventsOf hold.owner) ∧
        (s.faults.classMask.getLsbD 4 = true → s.faults.log.length < 64 →
          t.faults.log.any (fun record => decide (record.fault.code = .holdExpired ∧ record.fault.port = some hold.owner ∧
            record.fault.aperture = some hold.aperture ∧ record.stamp = t.tickCount)) = true))) ∧
  (∀ (s : State) (h : HoldId) (hold : Hold), s.hold h = some hold →
    s.endHold h .expiry =
      (((s.setHold h none).raise hold.owner (.holdExpired h)).offer
        { code := .holdExpired, port := some hold.owner, aperture := some hold.aperture, unit := some hold.first }).retest h ∧
    ∀ reason, s.endHold h (.broken reason) = ((s.setHold h none).raise hold.owner (.holdBroken h reason)).retest h) ∧
  ∀ (s : State) (h : HoldId) (b : BankId), ((s.retest h).bank b).queue = (s.bank b).queue.map fun entry =>
    if entry.parkedOn = some h then
      { entry with parkedOn := allHolds.find? fun g => (s.hold g).any (excludes entry.port entry.unit entry.length) }
    else entry

/-- The ack timer of an ACTIVE link reaches 16: a replay, or RETRAIN after four of them (R33, R44, R45). The training timer
reaches 100: a new TRAIN_REQ in TRAINING, the next attempt in RETRAIN, and after the third attempt the link fails and its port
is torn down (R20, R35). The rows act on such a tick alone (notes/assumptions/4.md). -/
def Obligations.LinkTimersReachTheirLimits : Prop :=
  (∀ (s : State) (p : PortId), s.TickFree → s.device.isDraining = false → (s.link p).state = .active →
    (s.link p).replay ≠ [] → (s.link p).ackTimer = 15 →
    ∃ t, exec (.ackTimeout p) s = .next t ∧
      t.link p =
        (if (s.link p).replayAttempts < 4 then
          { s.link p with
            replayAttempts := (s.link p).replayAttempts + 1, replays := count16 (s.link p).replays, ackTimer := 0,
            retransmit := (s.link p).replay.head?.map SentData.seq }
        else
          { s.link p with
            state := .retrain, fresh := false, retransmit := none, nakPending := false, ackOwed := false,
            requestAnswered := false, answerReceived := false, ackTimer := 0, trainTimer := 0, trainAttempts := 1,
            hostExpected := none, retrains := count16 (s.link p).retrains, trainReqWaiting := true,
            trainAckWaiting := false, nakWaiting := false }) ∧
      t.tickCount = s.tickCount + 1 ∧ t.memory = s.memory ∧ t.health = s.health) ∧
  (∀ (s : State) (p : PortId), s.TickFree → s.device.isDraining = false → (s.link p).trainTimer = 99 →
    ((s.link p).state = .training → ∃ t, exec (.trainingTimeout p) s = .next t ∧
      t.link p = { s.link p with trainTimer := 0, trainReqWaiting := true } ∧ t.memory = s.memory ∧ t.health = s.health) ∧
    ((s.link p).state = .retrain → (s.link p).trainAttempts < 3 → ∃ t, exec (.trainingTimeout p) s = .next t ∧
      t.link p =
        { s.link p with trainTimer := 0, trainAttempts := (s.link p).trainAttempts + 1, trainReqWaiting := true } ∧
      t.memory = s.memory ∧ t.health = s.health) ∧
    ((s.link p).state = .retrain → 3 ≤ (s.link p).trainAttempts → ∃ t, exec (.trainingTimeout p) s = .next t ∧
      (t.link p).state = .failed ∧ (t.link p).trainTimer = 100 ∧ (t.link p).ackTimer = 0 ∧ TornDown p s t ∧
      t.memory = s.memory ∧ t.health = s.health))

/-! ### Disturbances -/

/-- A disturbance of a unit leaves its health no better than struck and changes nothing else (R113); a disturbance of a stored
bit of a usable entry strikes that bit alone and leaves the parity bad (R70, R84). Which state a struck state field reads as is
the model's operand, and that a second disturbance does not mend the parity is the model's reading (both
notes/assumptions/9.md). -/
def Obligations.DisturbancesStrikeOnePlace : Prop :=
  (∀ (s : State) (unit : UnitAddr) (health : Health), s.Settled → s.MemoryWf → health ≠ .clean →
    ∃ t, exec (.memoryDisturbance unit health) s = .next t ∧
      t.unitHealth unit = (if s.unitHealth unit = .uncorrectable then .uncorrectable else health) ∧
      (∀ other, other ≠ unit → t.unitHealth other = s.unitHealth other) ∧ { t with health := s.health } = s) ∧
  (∀ (s : State) (i : ApIndex) (bit : StoredBit), s.Settled → s.device ≠ .reset → i ≠ 0 →
    ∃ t, exec (.tableDisturbance i bit) s = .next t ∧
      t.entry i = { ((match bit with
        | .state reads => { s.entry i with state := reads }
        | .generation k => { s.entry i with generation := (s.entry i).generation ^^^ BitVec.ofNat 4 (2 ^ k.val) }
        | .base k => { s.entry i with base := (s.entry i).base ^^^ BitVec.ofNat 22 (2 ^ k.val) }
        | .limit k => { s.entry i with limit := (s.entry i).limit ^^^ BitVec.ofNat 22 (2 ^ k.val) }
        | .granularity =>
          { s.entry i with granularity := if (s.entry i).granularity = .unit then .page else .unit }
        | .rights k => { s.entry i with rights := flipRight (s.entry i).rights k }
        | .accessTier k => { s.entry i with accessTier := Fin.ofNat 4 ((s.entry i).accessTier.val ^^^ 2 ^ k.val) }
        | .portMask k => { s.entry i with portMask := (s.entry i).portMask ^^^ BitVec.ofNat 4 (2 ^ k.val) }
        | .parity => s.entry i) : ApEntry) with parityBad := true } ∧
      (∀ j, j ≠ i → t.entry j = s.entry j) ∧ { t with apertures := s.apertures } = s)

/-! ### Parcels that arrive -/

/-- Parsing the frame of a parcel gives the parcel back, for every parcel with a body of a length that suits its type (R27,
R28). -/
def Obligations.ParsedFrameIsTheParcelSent : Prop :=
  ∀ parcel : Parcel, bodySuits parcel.kind parcel.body.length = true → parseParcel (encodeParcel parcel) = some parcel

/-- A malformed parcel is counted in TRAINING, RETRAIN and ACTIVE, leads to a NAK in ACTIVE unless one is pending, and does
nothing else; DOWN and FAILED discard it (R28, R41). That a frame whose length is not that of its header is malformed is the
model's reading (notes/assumptions/8.md). -/
def Obligations.MalformedParcelCountedAndNaked : Prop :=
  ∀ (s : State) (p : PortId) (frame : List Byte), s.Settled → malformed frame = true →
    exec (.malformedParcel p frame) s = .next (s.modLink p fun link =>
      match link.state with
      | .down | .failed => link
      | .training | .retrain => { link with crcErrors := count16 link.crcErrors }
      | .active =>
        { link with
          crcErrors := count16 link.crcErrors, nakPending := true, nakWaiting := link.nakWaiting || !link.nakPending })

/-- An ACK in ACTIVE removes the acknowledged parcels or offers BAD_ACK, and is discarded elsewhere; a NAK acknowledges, and
where parcels remain a replay is performed, or retraining takes its place once the oldest has been replayed four times, and it
is discarded elsewhere too (R29, R36, R39, R40, R44). -/
def Obligations.AckAndNakAcknowledgeAndReplay : Prop :=
  (∀ (s : State) (p : PortId) (ack : Seq), s.Settled →
    let link := s.link p
    let oldest := (link.replay.head?.map SentData.seq).getD link.sendSeq
    let count := distance oldest ack
    (link.state = .active → count ≤ distance oldest link.sendSeq →
      ∃ t, exec (.receiveAck p ack) s = .next t ∧ OnlyLink p s t ∧
        t.link p = (if count = 0 then link else
          { link with
            replay := link.replay.drop count, replayAttempts := 0, ackTimer := 0,
            retransmit := link.retransmit.bind fun point =>
              if (link.replay.drop count).any fun sent => sent.seq = point then some point
              else (link.replay.drop count).head?.map SentData.seq })) ∧
    (link.state = .active → distance oldest link.sendSeq < count →
      exec (.receiveAck p ack) s = .next (s.offer { code := .badAck, port := some p })) ∧
    (link.state ≠ .active → exec (.receiveAck p ack) s = .next s)) ∧
  (∀ (s : State) (p : PortId) (ack : Seq), s.Settled → (s.link p).state = .active →
    let removed := removeAcked (s.link p) ack
    (ackInWindow (s.link p) ack = false →
      exec (.receiveNak p ack) s = .next (s.offer { code := .badAck, port := some p })) ∧
    (ackInWindow (s.link p) ack = true → removed.replay = [] →
      ∃ t, exec (.receiveNak p ack) s = .next t ∧ OnlyLink p s t ∧ t.link p = removed) ∧
    (ackInWindow (s.link p) ack = true → removed.replay ≠ [] → removed.replayAttempts < 4 →
      ∃ t, exec (.receiveNak p ack) s = .next t ∧ OnlyLink p s t ∧
        t.link p =
          { removed with
            replayAttempts := removed.replayAttempts + 1, replays := count16 removed.replays, ackTimer := 0,
            retransmit := removed.replay.head?.map SentData.seq }) ∧
    (ackInWindow (s.link p) ack = true → removed.replay ≠ [] → 4 ≤ removed.replayAttempts →
      ∃ t, exec (.receiveNak p ack) s = .next t ∧ (t.link p).state = .retrain ∧ (t.link p).replay = removed.replay ∧
        (t.link p).retrains = count16 (s.link p).retrains ∧ (t.link p).replays = (s.link p).replays ∧
        (t.link p).trainReqWaiting = true ∧ t.memory = s.memory ∧ t.health = s.health)) ∧
  ∀ (s : State) (p : PortId) (ack : Seq), s.Settled → (s.link p).state ≠ .active →
    exec (.receiveNak p ack) s = .next s

/-- A DATA parcel in ACTIVE has its ack field processed and then is accepted, refused by a full FIFO, discarded as a duplicate
or answered by a NAK as out of order; in every other link state it is discarded (R36 to R39, R41). -/
def Obligations.DataParcelClassedBySequence : Prop :=
  ∀ (s : State) (p : PortId) (seq ack : Seq) (body : List Byte), s.Settled → 1 ≤ body.length → body.length ≤ 128 →
    let acked := s.processAck p ack
    let past := distance seq (s.link p).recvSeq
    ((s.link p).state = .active → past = 0 → (s.port p).fifo.length < 32 →
      exec (.receiveData p seq ack body) s =
        .next ((acked.modPort p fun port => { port with fifo := port.fifo ++ [body] }).modLink p fun link =>
          { link with recvSeq := link.recvSeq + 1, nakPending := false, ackOwed := true })) ∧
    ((s.link p).state = .active → past = 0 → 32 ≤ (s.port p).fifo.length →
      exec (.receiveData p seq ack body) s = .next (acked.offer { code := .ingressFull, port := some p })) ∧
    ((s.link p).state = .active → 1 ≤ past → past ≤ 32 →
      exec (.receiveData p seq ack body) s = .next (acked.modLink p fun link => { link with ackOwed := true })) ∧
    ((s.link p).state = .active → 33 ≤ past →
      exec (.receiveData p seq ack body) s =
        .next (acked.modLink p fun link =>
          { link with nakPending := true, nakWaiting := link.nakWaiting || !link.nakPending })) ∧
    ((s.link p).state ≠ .active → exec (.receiveData p seq ack body) s = .next s)

/-! ### Training -/

/-- A fresh TRAIN_REQ in TRAINING is answered and completes training where the engine's own has been answered; in DOWN and
FAILED it is discarded; in ACTIVE and RETRAIN it is a host reset: the port is torn down, its link trains afresh and the request
is answered (R20, R29 to R32; the two rows are one parcel, notes/assumptions/7.md). -/
def Obligations.FreshTrainRequestTrainsOrResets : Prop :=
  (∀ (s : State) (p : PortId), s.Settled →
    ((s.link p).state = .training → (s.link p).answerReceived = false →
      ∃ t, exec (.receiveTrainReq p) s = .next t ∧ OnlyLink p s t ∧
        t.link p = { s.link p with trainAckWaiting := true, requestAnswered := true }) ∧
    ((s.link p).state = .training → (s.link p).answerReceived = true →
      ∃ t, exec (.receiveTrainReq p) s = .next t ∧ OnlyLink p s t ∧
        t.link p =
          { s.link p with
            state := .active, trainAckWaiting := true, requestAnswered := false, answerReceived := false,
            trainTimer := 0, ackTimer := 0, trainReqWaiting := false }) ∧
    ((s.link p).state = .down ∨ (s.link p).state = .failed → exec (.receiveTrainReq p) s = .next s)) ∧
  (∀ (s : State) (p : PortId), s.Settled → s.device.isDraining = false →
    (s.link p).state = .active ∨ (s.link p).state = .retrain →
    ∃ t, exec (.hostReset p) s = .next t ∧ TornDown p s t ∧
      t.link p =
        { s.link p with
          state := .training, fresh := true, sendSeq := 0, recvSeq := 0, replay := [], retransmit := none,
          nakPending := false, ackOwed := false, requestAnswered := true, answerReceived := false, replayAttempts := 0,
          trainAttempts := 0, ackTimer := 0, trainTimer := 0, hostExpected := none, trainReqWaiting := true,
          trainAckWaiting := true, nakWaiting := false } ∧
      t.memory = s.memory ∧ t.health = s.health)

/-- A TRAIN_REQ with fresh 0 starts retraining in ACTIVE and is answered in RETRAIN (R33, R34); in TRAINING, DOWN and FAILED
it is discarded (R29, R31). -/
def Obligations.RetrainRequestAnswered : Prop :=
  ∀ (s : State) (p : PortId) (ack : Seq), s.Settled →
    ((s.link p).state = .active → ∃ t, exec (.receiveRetrainReq p ack) s = .next t ∧
      t.link p =
        { s.link p with
          state := .retrain, fresh := false, retransmit := none, nakPending := false, ackOwed := false,
          requestAnswered := true, answerReceived := false, ackTimer := 0, trainTimer := 0, trainAttempts := 1,
          hostExpected := some ack, retrains := count16 (s.link p).retrains, trainReqWaiting := true,
          trainAckWaiting := true, nakWaiting := false } ∧
      t.memory = s.memory ∧ t.health = s.health) ∧
    ((s.link p).state = .retrain → (s.link p).answerReceived = false →
      ∃ t, exec (.receiveRetrainReq p ack) s = .next t ∧ OnlyLink p s t ∧
        t.link p = { s.link p with trainAckWaiting := true, requestAnswered := true, hostExpected := some ack }) ∧
    ((s.link p).state = .retrain → (s.link p).answerReceived = true →
      ∃ t, exec (.receiveRetrainReq p ack) s = .next t ∧ (t.link p).state = .active ∧
        (t.link p).trainAckWaiting = true ∧ (t.link p).replay =
          (if ackInWindow (s.link p) ack then (removeAcked (s.link p) ack).replay else (s.link p).replay)) ∧
    ((s.link p).state = .training ∨ (s.link p).state = .down ∨ (s.link p).state = .failed →
      exec (.receiveRetrainReq p ack) s = .next s)

/-- A TRAIN_ACK that suits the training counts as an answer and completes training where the host's request has been answered;
at the end of retraining the host expected sequence acknowledges, and what remains is sent again (R31, R34, R36). -/
def Obligations.TrainAckCompletesTraining : Prop :=
  ∀ (s : State) (p : PortId) (ack : Seq), s.Settled →
    ((s.link p).state = .training → (s.link p).requestAnswered = true →
      ∃ t, exec (.receiveTrainAck p true ack) s = .next t ∧ OnlyLink p s t ∧
        t.link p =
          { s.link p with
            state := .active, requestAnswered := false, answerReceived := false, trainTimer := 0, ackTimer := 0,
            trainReqWaiting := false }) ∧
    ((s.link p).state = .training → (s.link p).requestAnswered = false →
      ∃ t, exec (.receiveTrainAck p true ack) s = .next t ∧ OnlyLink p s t ∧
        t.link p = { s.link p with answerReceived := true }) ∧
    ((s.link p).state = .retrain → (s.link p).requestAnswered = true → ackInWindow (s.link p) ack = true →
      ∃ t, exec (.receiveTrainAck p false ack) s = .next t ∧ OnlyLink p s t ∧
        t.link p =
          { s.link p with
            state := .active, replay := (removeAcked (s.link p) ack).replay,
            retransmit := (removeAcked (s.link p) ack).replay.head?.map SentData.seq, replayAttempts := 0,
            trainAttempts := 0, ackTimer := 0, trainTimer := 0, requestAnswered := false, answerReceived := false,
            hostExpected := none, trainReqWaiting := false }) ∧
    ((s.link p).state = .retrain → (s.link p).requestAnswered = false →
      ∃ t, exec (.receiveTrainAck p false ack) s = .next t ∧ OnlyLink p s t ∧
        t.link p = { s.link p with answerReceived := true, hostExpected := some ack }) ∧
    (∀ fresh, ((s.link p).state = .training ∧ fresh = false) ∨ ((s.link p).state = .retrain ∧ fresh = true) ∨
        (s.link p).state = .active ∨ (s.link p).state = .down ∨ (s.link p).state = .failed →
      exec (.receiveTrainAck p fresh ack) s = .next s)

/-! ### Parcels that are sent -/

/-- The sends of training parcels, NAK, ACK and retransmitted DATA: each leaves when nothing of higher precedence waits, with
the header fields of R27, and clears what waited; the retransmission point moves on; a parcel does not leave while one of higher
precedence waits, nor in a link state that does not permit it (R27, R41, R43, R46, R47). That a TRAIN_ACK keeps the ACK-owed
flag and that a send which is not enabled changes nothing are the model's readings (notes/assumptions/17.md and 2.md). -/
def Obligations.SendsByPrecedence : Prop :=
  (∀ (s : State) (p : PortId), s.Settled →
    let link := s.link p
    (link.state = .training ∨ link.state = .retrain ∨ link.state = .active → link.trainAckWaiting = true →
      exec (.sendTrainAck p) s = .next (s.modLink p fun link =>
        { link with
          trainAckWaiting := false
          sent := some (encodeParcel
            { kind := .trainAck, ack := if link.fresh then 0 else link.recvSeq, fresh := link.fresh }) })) ∧
    (link.state = .training ∨ link.state = .retrain → link.trainAckWaiting = false → link.trainReqWaiting = true →
      exec (.sendTrainReq p) s = .next (s.modLink p fun link =>
        { link with
          trainReqWaiting := false
          sent := some (encodeParcel
            { kind := .trainReq, ack := if link.fresh then 0 else link.recvSeq, fresh := link.fresh }) })) ∧
    (link.state = .active → link.trainAckWaiting = false → link.nakWaiting = true →
      exec (.sendNak p) s = .next (s.modLink p fun link =>
        { link with
          nakWaiting := false, ackOwed := false, sent := some (encodeParcel { kind := .nak, ack := link.recvSeq }) })) ∧
    (link.state = .active → link.trainAckWaiting = false → link.nakWaiting = false → link.retransmit = none →
      newDataReady (s.port p) = false → link.ackOwed = true →
      exec (.sendAck p) s = .next (s.modLink p fun link =>
        { link with ackOwed := false, sent := some (encodeParcel { kind := .ack, ack := link.recvSeq }) }))) ∧
  (∀ (s : State) (p : PortId) (data : SentData), s.Settled → (s.link p).state = .active →
    (s.link p).trainAckWaiting = false → (s.link p).nakWaiting = false → (s.link p).retransmit = some data.seq →
    (s.link p).replay.find? (fun sent => sent.seq = data.seq) = some data →
    exec (.sendRetransmit p) s = .next (s.modLink p fun link =>
      { link with
        retransmit := if link.replay.any fun sent => sent.seq = data.seq + 1 then some (data.seq + 1) else none
        ackOwed := false
        sent := some (encodeParcel { kind := .data, seq := data.seq, ack := link.recvSeq, body := data.body }) })) ∧
  (∀ (s : State) (p : PortId), s.Settled →
    let link := s.link p
    (link.trainAckWaiting = true → ∀ i ∈ [Instr.sendTrainReq p, .sendNak p, .sendRetransmit p, .sendNewData p, .sendAck p],
      exec i s = .next s) ∧
    (link.state = .active → link.nakWaiting = true → ∀ i ∈ [Instr.sendRetransmit p, .sendNewData p, .sendAck p],
      exec i s = .next s) ∧
    (link.state = .active → link.retransmit ≠ none → ∀ i ∈ [Instr.sendNewData p, .sendAck p], exec i s = .next s) ∧
    (link.state = .active → newDataReady (s.port p) = true → exec (.sendAck p) s = .next s) ∧
    (link.state = .active → exec (.sendTrainReq p) s = .next s) ∧
    (link.state = .training ∨ link.state = .retrain →
      ∀ i ∈ [Instr.sendNak p, .sendRetransmit p, .sendNewData p, .sendAck p], exec i s = .next s) ∧
    (link.state = .down ∨ link.state = .failed →
      ∀ i ∈ [Instr.sendTrainAck p, .sendTrainReq p, .sendNak p, .sendRetransmit p, .sendNewData p, .sendAck p],
        exec i s = .next s))

/-- A new DATA parcel takes the response or the event placed first, uses the next sequence number and is kept for replay; an
event carries the events-lost flag and clears it (R42, R46, R48, R162). The body of a response is the header of Table 3-4, with
the status and detail values of Tables 3-6 and 3-7, and its payload (R65, R67); that of an event is Table 3-5 (R66). That the
last frame sent is kept is the model's choice (notes/assumptions/15.md). -/
def Obligations.NewDataSendsTheBodyPlacedFirst : Prop :=
  (∀ (s : State) (p : PortId), s.Settled → (s.link p).state = .active → (s.link p).trainAckWaiting = false →
    (s.link p).nakWaiting = false → (s.link p).retransmit = none → (s.link p).replay.length < 32 →
    let send (body : List Byte) (link : Link) : Link :=
      { link with
        sendSeq := link.sendSeq + 1, replay := link.replay ++ [{ seq := link.sendSeq, body := body }],
        ackTimer := if link.replay = [] then 0 else link.ackTimer, ackOwed := false,
        sent := some (encodeParcel { kind := .data, seq := link.sendSeq, ack := link.recvSeq, body := body }) }
    (∀ first rest, (s.port p).egress = first :: rest → (∀ event ∈ (s.port p).events, first.placed ≤ event.placed) →
      exec (.sendNewData p) s =
        .next ((s.modPort p fun port => { port with egress := rest }).modLink p (send (responseBody first.response)))) ∧
    (∀ first rest, (s.port p).events = first :: rest →
      (∀ response, (s.port p).egress.head? = some response → first.placed < response.placed) →
      exec (.sendNewData p) s =
        .next ((s.modPort p fun port => { port with events := rest, eventsLost := false }).modLink p
          (send (eventBody first.event (s.port p).eventsLost))))) ∧
  (let statuses : List Status :=
    [.ok, .retry, .deviceHalted, .badRequest, .unbound, .nullAperture, .staleBinding, .noAperture, .deniedPort, .deniedTier,
      .deniedRights, .badAlign, .outOfBounds, .held, .holdConflict, .holdExhausted, .noHold, .poisoned, .mgmtBusy,
      .mgmtRejected, .selfTarget]
  let details : List Detail :=
    [.badIndex, .notFree, .notLive, .badDescriptor, .badProfile, .profileLocked, .wrongState, .badPort, .noHold, .readOnly,
      .badRegister, .notNow, .logEmpty]
  ∀ response : Response, responseBody response =
    [0, BitVec.ofNat 8 response.tag.val, BitVec.ofNat 8 (statuses.idxOf response.status),
      match response.detail with
      | none => 0
      | some detail => BitVec.ofNat 8 (details.idxOf detail + 1),
      if response.compareEqual then 1 else 0, 0, 0, 0] ++ response.payload) ∧
  ∀ (event : Event) (lost : Bool),
    let flags : Byte := if lost then 2 else 0
    eventBody event lost = match event with
      | .holdExpired hold => [0x10, 1, flags, 0, BitVec.ofNat 8 hold.val, 0, 0, 0]
      | .holdBroken hold reason =>
        [0x10, 2, flags, 0, BitVec.ofNat 8 hold.val,
          match reason with
          | .retire => 1
          | .management => 2
          | .drain => 3,
          0, 0]
      | .slotsStale slots => [0x10, 3, flags, 0, slots, 0, 0, 0]
      | .protocolError tag reason =>
        [0x10, 4, flags, 0, BitVec.ofNat 8 tag.val,
          match reason with
          | .tagReuse => 1
          | .responseLost => 2,
          0, 0]
      | .deviceState news =>
        [0x10, 5, flags, 0,
          match news with
          | .ready => 4
          | .draining => 5
          | .halted => 7,
          0, 0, 0]
      | .logAttention => [0x10, 6, flags, 0, 0, 0, 0, 0]
      | .apertureFreed index =>
        [0x10, 7, flags, 0, BitVec.ofNat 8 (index.val % 256), BitVec.ofNat 8 (index.val / 256), 0, 0]

/-! ### Requests: what every kind shares -/

/-- A body shorter than 8 bytes is removed without a response, with a SHORT_REQUEST record (R53); the drain completion test
follows, as after every taking (R1, R14). -/
def Obligations.ShortBodyIsRemoved : Prop :=
  ∀ (s : State) (p : PortId) (body : List Byte) (rest : List (List Byte)), s.nextDue = some (.take p) →
    (s.port p).fifo = body :: rest → body.length < 8 →
    exec (.shortRequest p) s =
      .next ((s.modPort p fun port => { port with fifo := rest, head := .none, attemptDue := false }).offer
        { code := .shortRequest, port := some p }).drainEvent

/-- A request whose tag is OUTSTANDING is discarded, whatever its kind and the device state, with a TAG_REUSE record and a
PROTOCOL_ERROR event; the tag table is not changed (R61). The drain completion test ends the taking, as it ends every taking. -/
def Obligations.ReusedTagIsDiscarded : Prop :=
  ∀ (s : State) (p : PortId) (body : List Byte) (rest : List (List Byte)), s.Takes p body rest →
    s.tagHolder p (headerOf body).tag ≠ none →
    exec (takingOf (headerOf body).kind p) s =
      .next (((s.modPort p fun port => { port with fifo := rest, head := .none, attemptDue := false }).offer
        { code := .tagReuse, port := some p, tag := some (headerOf body).tag }).raise p
          (.protocolError (headerOf body).tag .tagReuse)).drainEvent

/-- The device-state gate: in READY every kind passes and MGMT passes in every state; in DRAINING every other kind is answered
RETRY and in HALTED DEVICE_HALTED, with no payload and no other effect of the request (R63). The drain completion test ends the
taking, as it ends every taking. -/
def Obligations.GateAnswersOutsideReady : Prop :=
  (∀ kind, gate .ready kind = none) ∧ (∀ device, gate device .mgmt = none) ∧
  ∀ (s : State) (p : PortId) (body : List Byte) (rest : List (List Byte)), s.Takes p body rest →
    s.tagHolder p (headerOf body).tag = none → (headerOf body).kind ≠ .mgmt →
    (s.device.isDraining = true →
      exec (takingOf (headerOf body).kind p) s =
        .next (s.answer p { tag := (headerOf body).tag, status := .retry }).drainEvent) ∧
    (s.device = .halted →
      exec (takingOf (headerOf body).kind p) s =
        .next (s.answer p { tag := (headerOf body).tag, status := .deviceHalted }))

/-- The format check passes exactly the kind codes, length codes, ops and body lengths of Table 3-3 (R52, R53); a request that
fails it is answered BAD_REQUEST with its record, and an invalid kind always fails it (R53); the drain completion test ends the
taking (R1, R14). That the response goes before the record is the model's reading (notes/assumptions/10.md). -/
def Obligations.BadFormatIsAnswered : Prop :=
  (∀ body : List Byte, 8 ≤ body.length →
    let code := numberAt body 0 8 / 2 ^ 60
    let lengthCode := numberAt body 0 8 / 2 ^ 50 % 4
    let op := numberAt body 0 8 % 8
    (formatOk (headerOf body) body.length = true ↔
      (code = 1 ∧ lengthCode ≠ 3 ∧ body.length = 8) ∨
      (code = 2 ∧ ((lengthCode = 0 ∧ body.length = 24) ∨ (lengthCode = 1 ∧ body.length = 40) ∨
        (lengthCode = 2 ∧ body.length = 72))) ∨
      (code = 3 ∧ body.length = 26) ∨
      (code = 4 ∧ ((op ≠ 2 ∧ op ≤ 4 ∧ body.length = 16) ∨ (op = 2 ∧ body.length = 24))) ∨
      (5 ≤ code ∧ code ≤ 10 ∧ body.length = 8) ∨
      (code = 11 ∧ 9 ≤ body.length ∧ body.length ≤ 128))) ∧
  (∀ (s : State) (p : PortId) (body : List Byte) (rest : List (List Byte)), s.Takes p body rest →
    s.tagHolder p (headerOf body).tag = none → gate s.device (headerOf body).kind = none →
    formatOk (headerOf body) body.length = false →
    exec (takingOf (headerOf body).kind p) s =
      .next ((s.answer p { tag := (headerOf body).tag, status := .badRequest }).offer
        { code := .badRequest, port := some p, tag := some (headerOf body).tag }).drainEvent) ∧
  (∀ (s : State) (p : PortId) (body : List Byte) (rest : List (List Byte)), s.Takes p body rest →
    (numberAt body 0 8 / 2 ^ 60 = 0 ∨ 12 ≤ numberAt body 0 8 / 2 ^ 60) → s.device = .ready →
    s.tagHolder p (headerOf body).tag = none →
    exec (.invalidRequestKind p) s =
      .next ((s.answer p { tag := (headerOf body).tag, status := .badRequest }).offer
        { code := .badRequest, port := some p, tag := some (headerOf body).tag }))

/-- An answer leaves the FIFO and generates a response: the tag is FREE and the response is at the tail of the egress queue, or
it is lost from a full one with its record and event (R48, R60, R62). An offered record is masked out, merged into the newest,
stored or dropped from a full log (R154 to R156); the attention test sets or clears the flag, and sets it with a LOG_ATTENTION
for every subscribed port (R158); a raised event is dropped, queued or lost (R161). -/
def Obligations.AnswerFreesTagAndQueuesResponse : Prop :=
  (∀ (s : State) (p : PortId) (response : Response),
    ((s.port p).egress.length < 32 →
      OnlyPort p { s with order := s.order + 1 } (s.answer p response) ∧
      (s.answer p response).port p =
        { s.port p with
          fifo := (s.port p).fifo.tail, head := .none, attemptDue := false,
          tags := (s.port p).tags.set response.tag none,
          egress := (s.port p).egress ++ [{ placed := s.order, response := response }] }) ∧
    (32 ≤ (s.port p).egress.length →
      s.answer p response = (((s.popHead p).setTag p response.tag none).offer
        { code := .responseLost, port := some p, tag := some response.tag }).raise p
          (.protocolError response.tag .responseLost))) ∧
  (∀ (s : State) (fault : Offer),
    let enabled : Bool := s.faults.classMask.getLsbD (classValue (faultClass fault.code) - 1)
    let merges : Bool := s.faults.log.getLast?.any fun newest =>
      decide (newest.fault.code = fault.code ∧ newest.fault.port = fault.port ∧ newest.fault.aperture = fault.aperture ∧
        newest.stamp = s.tickCount)
    let record : FaultRecord := { sequence := s.faults.nextSequence, fault := fault, stamp := s.tickCount, repeats := 1 }
    let dropped : State := s.modFaults fun u =>
      { u with overflow := if u.overflow = 65535 then 65535 else u.overflow + 1, episode := true }
    (enabled = false → s.offer fault = s) ∧
    (enabled = true → merges = true → s.offer fault = s.modFaults fun u =>
      { u with log := u.log.dropLast ++ u.log.getLast?.toList.map fun newest =>
          { newest with repeats := if newest.repeats = 255 then 255 else newest.repeats + 1 } }) ∧
    (enabled = true → merges = false → s.faults.log.length < 64 →
      s.offer fault = (s.modFaults fun u =>
        { u with log := u.log ++ [record], nextSequence := u.nextSequence + 1 }).attentionTest) ∧
    (enabled = true → merges = false → 64 ≤ s.faults.log.length →
      s.offer fault = if s.faults.episode = true then dropped else dropped.attentionTest)) ∧
  (∀ s : State,
    let condition : Bool := (s.faults.log.any fun record =>
      s.faults.alertMask.getLsbD (classValue (faultClass record.fault.code) - 1)) || s.faults.episode
    let raised (p : PortId) : Bool := (s.port p).config.maskAttention && decide ((s.link p).state ∉ [.down, .failed])
    let room (p : PortId) : Bool := decide ((s.port p).events.length < 8)
    (condition = s.faults.attention → s.attentionTest = s) ∧
    (condition = false → s.faults.attention = true →
      s.attentionTest = s.modFaults fun u => { u with attention := false }) ∧
    (condition = true → s.faults.attention = false →
      (∀ p, s.attentionTest.port p =
        if raised p = false then s.port p
        else if room p = false then { s.port p with eventsLost := true }
        else { s.port p with events := (s.port p).events ++ [{
          placed := s.order + (allPorts.filter fun q => decide (q < p) && raised q && room q).length
          event := .logAttention }] }) ∧
      s.attentionTest.faults = (allPorts.filter fun p => raised p && !room p).foldl
        (fun u p => ({ s with faults := u }.offer { code := .eventLost, port := some p }).faults)
        { s.faults with attention := true } ∧
      { s.attentionTest with ports := s.ports, faults := s.faults, order := s.order } = s)) ∧
  ∀ (s : State) (p : PortId) (event : Event),
    ((s.link p).state ∈ [.down, .failed] → s.raise p event = s) ∧
    ((s.link p).state ∉ [.down, .failed] → (s.port p).events.length < 8 →
      s.raise p event =
        { (s.modPort p fun port => { port with events := port.events ++ [{ placed := s.order, event := event }] }) with
          order := s.order + 1 }) ∧
    ((s.link p).state ∉ [.down, .failed] → 8 ≤ (s.port p).events.length →
      s.raise p event = (s.modPort p fun port => { port with eventsLost := true }).offer
        { code := .eventLost, port := some p })

/-! ### Data requests -/

/-- A data request that meets every check of Table 5-4 and no foreign hold, and finds its bank queue with room, is admitted
unparked at the tail of the queue of its bank, translated through the slot (R64, R97 to R100, R104 to R106). The header fields
are those of Table 3-1, and the data, mask, operation, half and operands of the entry are those of the body (R52, R54, R55). -/
def Obligations.DataRequestIsAdmitted : Prop :=
  (∀ (bytes : List Byte) (place count : Nat), numberAt bytes place 0 = 0 ∧
    (numberAt bytes place (count + 1) = (bytes.getD place 0).toNat + 256 * numberAt bytes (place + 1) count)) ∧
  (∀ body : List Byte,
    let word := numberAt body 0 8
    let header := headerOf body
    (header.kind = ([.invalid, .read, .write, .writeMasked, .atomic, .bind, .unbind, .querySlot, .holdOpen, .holdRelease,
      .fence, .mgmt] : List RequestKind).getD (word / 2 ^ 60) .invalid ∧
    header.tag.val = word / 2 ^ 55 % 32 ∧ header.slot.val = word / 2 ^ 52 % 8 ∧
    header.lengthCode = word / 2 ^ 50 % 4 ∧ header.offset = word / 2 ^ 24 % 2 ^ 26 ∧ header.specific = word % 2 ^ 24) ∧
    (transferUnits header =
      if header.kind = .read ∨ header.kind = .write then ([1, 2, 4] : List Nat).getD header.lengthCode 0 else 1) ∧
    (header.kind = .read → entryOp header body = .read) ∧
    (header.kind = .write → entryOp header body = .write ((body.drop 8).take (16 * transferUnits header))) ∧
    (header.kind = .writeMasked →
      entryOp header body = .writeMasked ((body.drop 8).take 16) (BitVec.ofNat 16 (numberAt body 24 2))) ∧
    (header.kind = .atomic → ∀ op, ([.fetchAdd, .swap, .compareSwap, .fetchOr, .fetchAnd] : List AtomicOp)[
        header.specific % 8]? = some op →
      ∃ second, entryOp header body =
          .atomic op (decide (header.offset % 16 = 8)) (BitVec.ofNat 64 (numberAt body 8 8)) second ∧
        (op = .compareSwap → second = BitVec.ofNat 64 (numberAt body 16 8)))) ∧
  (∀ (copy : SlotCopy) (header : Header), rightHeld header.kind copy.rights = true →
    header.offset % (if header.kind = .atomic then 8 else 16 * transferUnits header) = 0 →
    header.offset / 16 + transferUnits header ≤ copy.limit.toNat + 1 →
    translate (.bound copy) header =
      .ok { unit := copy.base + BitVec.ofNat 22 (header.offset / 16), length := transferUnits header,
            aperture := handleIndex copy.handle }) ∧
  ∀ (s : State) (p : PortId) (body : List Byte) (rest : List (List Byte)) (kind : RequestKind) (copy : SlotCopy),
    s.Takes p body rest → s.Passes p body kind → kind ∈ [.read, .write, .writeMasked, .atomic] →
    let header := headerOf body
    let first := copy.base + BitVec.ofNat 22 (header.offset / 16)
    let bank := bankOf s.active.bankMap first.toNat
    s.slot p header.slot = .bound copy → rightHeld kind copy.rights = true →
    header.offset % (if kind = .atomic then 8 else 16 * transferUnits header) = 0 →
    header.offset / 16 + transferUnits header ≤ copy.limit.toNat + 1 →
    (kind = .read ∨ ∀ h hold, s.hold h = some hold → excludes p first (transferUnits header) hold = false) →
    (s.bank bank).queue.length < 8 →
    ∃ t, exec (takingOf kind p) s = .next t ∧ Admitted p header
      { port := p, tag := header.tag, op := entryOp header body, unit := first, length := transferUnits header,
        aperture := handleIndex copy.handle, position := s.order, parkedOn := none, discarded := false,
        orphaned := false } bank s t

/-- A data request that fails a check of Table 5-4 is answered with the status of the first that fails, and its PROTECTION
record names port, tag, slot and, where the slot has one, aperture; each kind needs the one right of R97 (R95 to R99, R101).
That the response goes before the record is the model's reading (notes/assumptions/10.md). -/
def Obligations.DataRequestIsRefusedInOrder : Prop :=
  (∀ rights : Rights, rightHeld .read rights = rights.read ∧ rightHeld .write rights = rights.write ∧
    rightHeld .writeMasked rights = rights.write ∧ rightHeld .atomic rights = rights.atomic) ∧
  ∀ (s : State) (p : PortId) (body : List Byte) (rest : List (List Byte)) (kind : RequestKind),
    s.Takes p body rest → s.Passes p body kind → kind ∈ [.read, .write, .writeMasked, .atomic] →
    let header := headerOf body
    let refused (status : Status) (code : FaultCode) (aperture : Option ApIndex) : State :=
      (s.answer p { tag := header.tag, status := status }).offer
        { code := code, port := some p, tag := some header.tag, slot := some header.slot, aperture := aperture }
    (s.slot p header.slot = .empty → exec (takingOf kind p) s = .next (refused .unbound .unbound none)) ∧
    (s.slot p header.slot = .nullBound → exec (takingOf kind p) s = .next (refused .nullAperture .nullAperture none)) ∧
    (∀ copy, s.slot p header.slot = .stale copy →
      exec (takingOf kind p) s = .next (refused .staleBinding .staleBinding (some (handleIndex copy.handle)))) ∧
    ∀ copy, s.slot p header.slot = .bound copy →
      if rightHeld kind copy.rights = false then
        exec (takingOf kind p) s = .next (refused .deniedRights .deniedRights (some (handleIndex copy.handle)))
      else if header.offset % (if kind = .atomic then 8 else 16 * transferUnits header) ≠ 0 then
        exec (takingOf kind p) s = .next (refused .badAlign .badAlign (some (handleIndex copy.handle)))
      else copy.limit.toNat + 1 < header.offset / 16 + transferUnits header →
        exec (takingOf kind p) s = .next (refused .outOfBounds .outOfBounds (some (handleIndex copy.handle)))

/-- A request whose bank queue is full waits at the head with its tag OUTSTANDING, and nothing else changes; a new attempt is
judged against its slot as it stands then, and admits it where its bank has room; the hold test finds the hold of lowest id
that excludes a write (R60, R64, R77, R132). -/
def Obligations.DataRequestWaitsAndTriesAgain : Prop :=
  (∀ (s : State) (p : PortId) (kind : RequestKind) (transfer : Transfer), s.holdTest p kind transfer =
    if kind ∈ [.write, .writeMasked, .atomic] then
      allHolds.find? fun h => (s.hold h).any (excludes p transfer.unit transfer.length)
    else none) ∧
  (∀ (s : State) (p : PortId) (body : List Byte) (rest : List (List Byte)) (kind : RequestKind) (transfer : Transfer),
    s.Takes p body rest → s.Passes p body kind → kind ∈ [.read, .write, .writeMasked, .atomic] →
    translate (s.slot p (headerOf body).slot) (headerOf body) = .ok transfer →
    s.holdTest p kind transfer = none → 8 ≤ (s.bank (s.targetBank transfer)).queue.length →
    (s.port p).head = .none →
    ∃ t, exec (takingOf kind p) s = .next t ∧ OnlyPort p { s with order := s.order + 1 } t ∧
      t.port p =
        { s.port p with
          head := .waitingSpace, waitingSince := s.order, attemptDue := false,
          tags := (s.port p).tags.set (headerOf body).tag (some .head) }) ∧
  (∀ (s : State) (p : PortId) (body : List Byte) (rest : List (List Byte)) (transfer : Transfer),
    s.nextDue = some (.attempt p) → (s.port p).fifo = body :: rest →
    translate (s.slot p (headerOf body).slot) (headerOf body) = .ok transfer →
    s.holdTest p (headerOf body).kind transfer = none → (s.bank (s.targetBank transfer)).queue.length < 8 →
    ∃ t, exec (.admissionReattempt p) s = .next t ∧ Admitted p (headerOf body)
      { port := p, tag := (headerOf body).tag, op := entryOp (headerOf body) body, unit := transfer.unit,
        length := transfer.length, aperture := transfer.aperture, position := s.order, parkedOn := none,
        discarded := false, orphaned := false } (s.targetBank transfer) s t)

/-- A write that meets a foreign hold is parked on the one of lowest id, waits at the head where the bank queue is full, or is
answered HELD with its record where six entries of its bank are parked (R60, R64, R107, R132). That the response goes before the
record is the model's reading (notes/assumptions/10.md). -/
def Obligations.ForeignHoldParksOrRefuses : Prop :=
  (∀ (p : PortId) (first : UnitAddr) (length : Nat) (hold : Hold), excludes p first length hold = true ↔
    hold.owner ≠ p ∧ hold.first.toNat < first.toNat + length ∧ first.toNat < hold.first.toNat + hold.span) ∧
  ∀ (s : State) (p : PortId) (body : List Byte) (rest : List (List Byte)) (kind : RequestKind) (transfer : Transfer)
    (h : HoldId), s.Takes p body rest → s.Passes p body kind → kind ∈ [.write, .writeMasked, .atomic] →
    translate (s.slot p (headerOf body).slot) (headerOf body) = .ok transfer →
    (∃ hold, s.hold h = some hold ∧ excludes p transfer.unit transfer.length hold = true) →
    (∀ g, g < h → ∀ hold, s.hold g = some hold → excludes p transfer.unit transfer.length hold = false) →
    let bank := s.targetBank transfer
    (6 ≤ (s.bank bank).parked →
      exec (takingOf kind p) s =
        .next ((s.answer p { tag := (headerOf body).tag, status := .held }).offer
          { code := .held, port := some p, tag := some (headerOf body).tag, slot := some (headerOf body).slot,
            aperture := some transfer.aperture, unit := some transfer.unit })) ∧
    ((s.bank bank).parked < 6 → (s.bank bank).queue.length < 8 →
      ∃ t, exec (takingOf kind p) s = .next t ∧ Admitted p (headerOf body)
        { port := p, tag := (headerOf body).tag, op := entryOp (headerOf body) body, unit := transfer.unit,
          length := transfer.length, aperture := transfer.aperture, position := s.order, parkedOn := some h,
          discarded := false, orphaned := false } bank s t) ∧
    ((s.bank bank).parked < 6 → 8 ≤ (s.bank bank).queue.length →
      ∃ t, exec (takingOf kind p) s = .next t ∧ OnlyPort p { s with order := s.order + 1 } t ∧
        t.port p =
          { s.port p with
            head := .waitingSpace, waitingSince := s.order, attemptDue := false,
            tags := (s.port p).tags.set (headerOf body).tag (some .head) })

/-! ### Slots, holds, FENCE and MGMT -/

/-- BIND: the null handle makes the slot NULL_BOUND; a handle that resolves and passes the port and tier tests fills the slot
with a copy of the entry and the effective tier; every other slot is kept and the binding counts of the old and the new index
move; each refusal leaves the slot as it is; a lookup that fails the parity check takes the device to HALTED with its record and
is answered DEVICE_HALTED (R70, R73, R81, R84, R85, R89, R90, R102). That a refusal's response goes before its record is the
model's reading (notes/assumptions/10.md). -/
def Obligations.BindFillsTheSlotOrRefuses : Prop :=
  (∀ (s : State) (p : PortId) (k : SlotId) (new : Slot), SlotChanged p k new s (s.setSlot p k new) ∧
    { (s.setSlot p k new).port p with slots := (s.port p).slots } = s.port p ∧
    { s.setSlot p k new with ports := s.ports, apertures := s.apertures } = s) ∧
  (∀ handle : BitVec 16, (handleIndex handle).val = handle.toNat / 64 ∧
    (handleGeneration handle).toNat = handle.toNat / 4 % 16 ∧ (handleTier handle).val = handle.toNat % 4) ∧
  (∀ header : Header, (bindHandle header).toNat = header.specific % 65536) ∧
  (∀ entry : ApEntry, (entryLimit entry).toNat =
    (if entry.granularity = .unit then entry.limit.toNat else (entry.limit.toNat + 1) * 256 - 1) % 4194304) ∧
  ∀ (s : State) (p : PortId) (body : List Byte) (rest : List (List Byte)), s.Takes p body rest → s.Passes p body .bind →
    let header := headerOf body
    let handle := bindHandle header
    let i := handleIndex handle
    let tier := max (s.port p).config.tier (handleTier handle)
    let copy : SlotCopy :=
      { handle := handle, effectiveTier := tier, base := (s.entry i).base, limit := entryLimit (s.entry i),
        granularity := (s.entry i).granularity, rights := (s.entry i).rights }
    let refused (status : Status) (code : FaultCode) : State :=
      (s.answer p { tag := header.tag, status := status }).offer
        { code := code, port := some p, tag := some header.tag, slot := some header.slot, aperture := some i }
    (i = 0 → exec (.bind p) s =
      .next ((s.setSlot p header.slot .nullBound).answer p { tag := header.tag, status := .ok }) ∧
      ∃ t, exec (.bind p) s = .next t ∧ SlotChanged p header.slot .nullBound s t) ∧
    (i ≠ 0 → (s.entry i).parityBad = false →
      if (s.entry i).state ≠ .live ∨ (s.entry i).generation ≠ handleGeneration handle then
        exec (.bind p) s = .next (refused .noAperture .noAperture)
      else if (s.entry i).portMask.getLsbD p.val = false then exec (.bind p) s = .next (refused .deniedPort .deniedPort)
      else if (s.entry i).accessTier < tier then exec (.bind p) s = .next (refused .deniedTier .deniedTier)
      else
        exec (.bind p) s = .next ((s.setSlot p header.slot (.bound copy)).answer p { tag := header.tag, status := .ok }) ∧
          ∃ t, exec (.bind p) s = .next t ∧ SlotChanged p header.slot (.bound copy) s t) ∧
    (i ≠ 0 → (s.entry i).parityBad = true → s.device = .ready →
      exec (.bind p) s =
        .next ((s.enterHalted { code := .tableParity, aperture := some i }).answer p
          { tag := header.tag, status := .deviceHalted }) ∧
      ∃ t, exec (.bind p) s = .next t ∧ t.device = .halted ∧ (∀ k, t.slot p k = s.slot p k) ∧
        (∀ j, t.entry j = s.entry j))

/-- UNBIND empties the slot, with the binding count of its index, and QUERY_SLOT reports it in 16 bytes; both are answered OK
(R91, R92). -/
def Obligations.UnbindEmptiesAndQueryReports : Prop :=
  ∀ (s : State) (p : PortId) (body : List Byte) (rest : List (List Byte)), s.Takes p body rest →
    (s.Passes p body .unbind → exec (.unbind p) s =
      .next ((s.setSlot p (headerOf body).slot .empty).answer p { tag := (headerOf body).tag, status := .ok }) ∧
      ∃ t, exec (.unbind p) s = .next t ∧ SlotChanged p (headerOf body).slot .empty s t) ∧
    (s.Passes p body .querySlot → ∃ record, record.length = 16 ∧
      exec (.querySlot p) s = .next (s.answer p { tag := (headerOf body).tag, status := .ok, payload := record }) ∧
      match s.slot p (headerOf body).slot with
      | .empty => record = 0 :: List.replicate 15 0
      | .nullBound => record = 1 :: List.replicate 15 0
      | .bound copy | .stale copy =>
        record = [if s.slot p (headerOf body).slot = .bound copy then 2 else 3, BitVec.ofNat 8 copy.effectiveTier,
            BitVec.ofNat 8 (copy.rights.read.toNat + 2 * copy.rights.write.toNat + 4 * copy.rights.atomic.toNat),
            if copy.granularity = .unit then 0 else 1] ++
          leBytes 2 copy.handle.toNat ++ [0, 0] ++ leBytes 4 ((copy.limit.toNat + 1) * 16 - 1) ++ [0, 0, 0, 0]) ∧
    ∀ count value : Nat, leBytes 0 value = [] ∧ leBytes (count + 1) value = BitVec.ofNat 8 value :: leBytes count (value / 256)

/-- HOLD_OPEN is refused by the first check that fails, with its record; one that meets every check takes the lowest-numbered
FREE hold for the translated range with the granted duration; HOLD_RELEASE ends a hold that the port owns, else it is answered
NO_HOLD with its record (R57, R128 to R131, R135). That the response goes before the record is the model's reading
(notes/assumptions/10.md). That a HOLD_OPEN is taken and granted whatever the state of its port's link, RETRAIN too, is the
model's reading (notes/assumptions/24.md). -/
def Obligations.HoldOpenGrantsAndReleaseEnds : Prop :=
  (∀ (s : State) (p : PortId) (body : List Byte) (rest : List (List Byte)) (copy : SlotCopy) (h : HoldId),
    s.Takes p body rest → s.Passes p body .holdOpen →
    let header := headerOf body
    let span := header.specific % 128
    let requested := header.specific / 128 % 65536
    let first := copy.base + BitVec.ofNat 22 (header.offset / 16)
    let granted := if requested = 0 ∨ s.active.holdCeiling < requested then s.active.holdCeiling else requested
    s.slot p header.slot = .bound copy → copy.rights.write = true → header.offset % 16 = 0 → 1 ≤ span → span ≤ 64 →
    header.offset / 16 + span ≤ copy.limit.toNat + 1 → s.activeHolds < 16 → s.ownedHolds p < 4 →
    s.holdConflicts p first span = false → s.hold h = none → (∀ g, g < h → s.hold g ≠ none) →
    exec (.holdOpen p) s =
      .next ((s.setHold h (some
        { owner := p, aperture := handleIndex copy.handle, generation := handleGeneration copy.handle, first := first,
          span := span, remaining := granted })).answer p
        { tag := header.tag, status := .ok, payload := [BitVec.ofNat 8 h.val, 0] ++ leBytes 2 granted })) ∧
  (∀ (s : State) (p : PortId) (body : List Byte) (rest : List (List Byte)), s.Takes p body rest → s.Passes p body .holdOpen →
    let header := headerOf body
    let span := header.specific % 128
    let refused (status : Status) (code : FaultCode) (aperture : Option ApIndex) (unit : Option UnitAddr) : State :=
      (s.answer p { tag := header.tag, status := status }).offer
        { code := code, port := some p, tag := some header.tag, slot := some header.slot, aperture := aperture, unit := unit }
    (s.slot p header.slot = .empty → exec (.holdOpen p) s = .next (refused .unbound .unbound none none)) ∧
    (s.slot p header.slot = .nullBound → exec (.holdOpen p) s = .next (refused .nullAperture .nullAperture none none)) ∧
    (∀ copy, s.slot p header.slot = .stale copy →
      exec (.holdOpen p) s = .next (refused .staleBinding .staleBinding (some (handleIndex copy.handle)) none)) ∧
    ∀ copy, s.slot p header.slot = .bound copy →
      let index := some (handleIndex copy.handle)
      let first := copy.base + BitVec.ofNat 22 (header.offset / 16)
      if copy.rights.write = false then exec (.holdOpen p) s = .next (refused .deniedRights .deniedRights index none)
      else if header.offset % 16 ≠ 0 then exec (.holdOpen p) s = .next (refused .badAlign .holdBadAlign index none)
      else if span = 0 ∨ 64 < span then exec (.holdOpen p) s = .next (refused .badAlign .holdBadSpan index none)
      else if copy.limit.toNat + 1 < header.offset / 16 + span then
        exec (.holdOpen p) s = .next (refused .outOfBounds .holdOutOfBounds index none)
      else if 16 ≤ s.activeHolds ∨ 4 ≤ s.ownedHolds p then
        exec (.holdOpen p) s = .next (refused .holdExhausted .holdExhausted index (some first))
      else s.holdConflicts p first span = true →
        exec (.holdOpen p) s = .next (refused .holdConflict .holdConflict index (some first))) ∧
  (∀ (s : State) (p : PortId) (body : List Byte) (rest : List (List Byte)), s.Takes p body rest →
    s.Passes p body .holdRelease →
    let header := headerOf body
    let h : HoldId := Fin.ofNat 16 (header.specific % 16)
    (∀ hold, s.hold h = some hold → hold.owner = p →
      ∃ t : State, exec (.holdRelease p) s = .next (t.answer p { tag := header.tag, status := .ok }) ∧ t.hold h = none ∧
        (∀ g, g ≠ h → t.hold g = s.hold g) ∧ (∀ b, ∀ entry ∈ (t.bank b).queue, entry.parkedOn ≠ some h) ∧
        { t with holds := s.holds, banks := s.banks } = s) ∧
    ((∀ hold, s.hold h = some hold → hold.owner ≠ p) →
      exec (.holdRelease p) s =
        .next ((s.answer p { tag := header.tag, status := .noHold }).offer
          { code := .noHold, port := some p, tag := some header.tag })))

/-- A FENCE with no predecessor is answered OK at once; with one it waits at the head with its tag OUTSTANDING, and the
completion that leaves its tag the only one answers it behind the response of the last predecessor (R58, R60; that FENCE_ANSWER
is that completion is notes/assumptions/5.md). -/
def Obligations.FenceAnsweredOrWaits : Prop :=
  (∀ (s : State) (p : PortId) (body : List Byte) (rest : List (List Byte)), s.Takes p body rest → s.Passes p body .fence →
    let tag := (headerOf body).tag
    ((∀ other, s.tagHolder p other = none) → exec (.fence p) s = .next (s.answer p { tag := tag, status := .ok })) ∧
    ((∃ other, s.tagHolder p other ≠ none) → ∃ t, exec (.fence p) s = .next t ∧ OnlyPort p s t ∧
      t.port p = { s.port p with head := .waitingFence, tags := (s.port p).tags.set tag (some .head) })) ∧
  (∀ (s : State) (p : PortId) (body : List Byte) (rest : List (List Byte)) (b : BankId) (entry : Entry) (scrub log : Bool),
    s.Settled → (s.port p).head = .waitingFence → (s.port p).fifo = body :: rest →
    s.served b = some (entry, scrub, log) → entry.port = p → entry.discarded = false →
    entry.tag ≠ (headerOf body).tag →
    (∀ tag, (s.tagHolder p tag).isSome = decide (tag = entry.tag ∨ tag = (headerOf body).tag)) →
    (s.port p).egress.length ≤ 30 →
    ∃ t last own, exec (.fenceAnswer p) s = .next t ∧ (t.port p).egress = (s.port p).egress ++ [last, own] ∧
      last.response.tag = entry.tag ∧ own.response = { tag := (headerOf body).tag, status := .ok } ∧
      (∀ tag, t.tagHolder p tag = none) ∧ (t.port p).head = .none ∧ (t.port p).fifo = rest)

/-- An in-band MGMT request is refused outside a management-capable port at tier 0 and by a full queue; else its command block
joins the tail of the management queue and its tag is OUTSTANDING (R59, R60, R167); the drain completion test ends the taking
(R1, R14). That a denial's response goes before its record is the model's reading (notes/assumptions/10.md). -/
def Obligations.MgmtIsQueuedOrRefused : Prop :=
  ∀ (s : State) (p : PortId) (body : List Byte) (rest : List (List Byte)), s.Takes p body rest → s.Passes p body .mgmt →
    let tag := (headerOf body).tag
    let denied (status : Status) : State :=
      (s.answer p { tag := tag, status := status }).offer { code := .mgmtDenied, port := some p, tag := some tag }
    if (s.port p).config.mgmtCapable = false then exec (.mgmt p) s = .next (denied .deniedPort).drainEvent
    else if (s.port p).config.tier ≠ 0 then exec (.mgmt p) s = .next (denied .deniedTier).drainEvent
    else if 8 ≤ s.mgmt.queue.length then
      exec (.mgmt p) s = .next (s.answer p { tag := tag, status := .mgmtBusy }).drainEvent
    else exec (.mgmt p) s =
      .next (State.drainEvent
        { (s.modPort p fun port =>
            { port with fifo := rest, head := .none, attemptDue := false, tags := port.tags.set tag (some .mgmt) }) with
          mgmt := { s.mgmt with
            queue := s.mgmt.queue ++ [{ source := .port p tag, block := body.drop 8, placed := s.order }] }
          order := s.order + 1 })

/-! ### Bank engines -/

/-- The bank mapping is the table of R104; under either map the bank and the bank-local address of a unit name it alone, and the
four units of a granule lie in one bank at consecutive places; a transfer goes to the bank of its first unit under the map of
the active profile. -/
def Obligations.BankMappingIsOneToOne : Prop :=
  (∀ (s : State) (transfer : Transfer), s.targetBank transfer = bankOf s.active.bankMap transfer.unit.toNat) ∧
  (∀ a < 4194304, (bankOf .interleave a).val = a / 4 % 8 ∧ localOf .interleave a = a / 32 * 4 + a % 4 ∧
    (bankOf .linear a).val = a / 524288 ∧ localOf .linear a = a % 524288) ∧
  ∀ map, (∀ a < 4194304, localOf map a < 524288) ∧
    (∀ a < 4194304, a % 4 = 0 → ∀ k < 4, bankOf map (a + k) = bankOf map a ∧ localOf map (a + k) = localOf map a + k) ∧
    (∀ a < 4194304, ∀ b < 4194304, bankOf map a = bankOf map b → localOf map a = localOf map b → a = b) ∧
    ∀ (bank : BankId) (place : Nat), place < 524288 → ∃ a < 4194304, bankOf map a = bank ∧ localOf map a = place

/-- A bank decision takes the first action of R111 whose condition holds and changes nothing of the part but that bank's state;
the entry that it takes is the first of the queue that is not parked and overlaps no entry before it (R111, R112). -/
def Obligations.BankDecisionFollowsProcedure : Prop :=
  (let eligible (older : List Entry) (entry : Entry) : Prop :=
    entry.parkedOn = none ∧ ∀ other ∈ older, entriesOverlap entry other = false
  ∀ queue : List Entry,
    (∀ entry, firstEligible [] queue = some entry → ∃ older newer, queue = older ++ entry :: newer ∧
      eligible older entry ∧ ∀ before other between, older = before ++ other :: between → ¬ eligible before other) ∧
    (firstEligible [] queue = none → ∀ older entry newer, queue = older ++ entry :: newer → ¬ eligible older entry)) ∧
  (∀ (s : State) (b : BankId), s.nextDue = some (.decide b) →
    ∃ t, exec (.bankDecision b) s = .next t ∧
      (t.bank b).state =
        (if s.active.postponeLimit < (s.bank b).owed then .refreshing
         else if s.device = .initializing ∧ (s.bank b).clearPosition < 128 then .serving .clearing
         else match firstEligible [] (s.bank b).queue with
           | some entry => .serving (.entry entry.position s.active.scrubOnCorrect s.active.logCorrected)
           | none => if 1 ≤ (s.bank b).owed then .refreshing else .idle) ∧
      t.bank b = { s.bank b with state := (t.bank b).state, decisionDue := false } ∧
      (∀ c, c ≠ b → t.bank c = s.bank c) ∧ { t with banks := s.banks, tickDecisions := s.tickDecisions } = s)

/-- The completion of a READ: with no UNCORRECTABLE unit it answers OK with the data of its units in ascending order, with one
POISONED with no payload; each CORRECTABLE unit is counted, and cleaned where scrubbing was on; the data of memory and the
injection arm stay; a CORRECTED record is offered for each counted unit where log_corrected was on, then one POISONED record for
the first UNCORRECTABLE unit; a discarded entry answers nothing and touches no tag (R21, R114, R117, R119). -/
def Obligations.ReadServiceAnswers : Prop :=
  ∀ (s : State) (b : BankId) (entry : Entry) (scrub log : Bool), s.Settled → s.MemoryWf →
    s.served b = some (entry, scrub, log) → entry.op = .read →
    let units := unitsFrom entry.unit entry.length
    ∃ t, exec (.readService b) s = .next t ∧
      Answered s t entry
        (if ∃ unit ∈ units, s.unitHealth unit = .uncorrectable then { tag := entry.tag, status := .poisoned }
          else { tag := entry.tag, status := .ok, payload := units.flatMap s.unitData }) ∧
      (t.bank b).state = .idle ∧ (∀ other ∈ (t.bank b).queue, other.position ≠ entry.position) ∧
      t.memory = s.memory ∧ t.mgmt = s.mgmt ∧
      (∀ unit, t.unitHealth unit =
        if scrub = true ∧ unit ∈ units ∧ s.unitHealth unit = .correctable then .clean else s.unitHealth unit) ∧
      (entry.length ≤ 4 → (t.bank b).corrected.toNat =
        min 65535 ((s.bank b).corrected.toNat + (units.filter fun unit => s.unitHealth unit = .correctable).length)) ∧
      (∀ c, c ≠ b → (t.bank c).corrected = (s.bank c).corrected) ∧
      (entry.length ≤ 4 → s.ReportsOnlyData entry →
        let record (code : FaultCode) (unit : UnitAddr) : Offer :=
          { code := code, port := some entry.port, tag := some entry.tag, aperture := some entry.aperture, unit := some unit }
        let corrected := if log = true then units.filter fun unit => s.unitHealth unit = .correctable else []
        let poisoned := (units.find? fun unit => s.unitHealth unit = .uncorrectable).toList
        t.faults = ((corrected.map (record .corrected) ++ poisoned.map (record .poisoned)).foldl State.offer s).faults)

/-- The completion of a WRITE stores its data in its units and nothing outside them, makes its units CLEAN but for the unit that
the ECC injection arm names, which takes the armed health and consumes the arm, corrects and records nothing and answers OK; a
discarded entry does all of this, answers nothing and touches no tag (R21, R115, R117, R118, R119). -/
def Obligations.WriteServiceStoresItsUnits : Prop :=
  ∀ (s : State) (b : BankId) (entry : Entry) (scrub log : Bool) (data : List Byte), s.Settled → s.MemoryWf →
    s.served b = some (entry, scrub, log) → entry.op = .write data → data.length = 16 * entry.length →
    entry.unit.toNat + entry.length ≤ 4194304 →
    ∃ t, exec (.writeService b) s = .next t ∧
      (∀ address, t.byteOf address =
        if inUnits entry.unit entry.length address then data.getD (address - entry.unit.toNat * 16) 0
        else s.byteOf address) ∧
      (∀ unit, t.unitHealth unit =
        if inUnits entry.unit entry.length (unit.toNat * 16) then
          match s.mgmt.arm with
          | some (armed, kind) => if armed = unit then injectedHealth kind else .clean
          | none => .clean
        else s.unitHealth unit) ∧
      t.mgmt =
        (match s.mgmt.arm with
          | some (armed, _) =>
            if inUnits entry.unit entry.length (armed.toNat * 16) then { s.mgmt with arm := none, consumed := true }
            else s.mgmt
          | none => s.mgmt) ∧
      Answered s t entry { tag := entry.tag, status := .ok } ∧ (t.bank b).state = .idle ∧
      (∀ c, (t.bank c).corrected = (s.bank c).corrected) ∧ (s.ReportsOnlyData entry → t.faults = s.faults)

/-- The completion of a WRITE_MASKED or an ATOMIC whose unit is not UNCORRECTABLE writes the whole unit back with the enabled
bytes, or the half that the operation computes, replaced: nothing outside the unit is stored, the unit becomes CLEAN or takes
the armed health and consumes the arm, and a CORRECTABLE unit is counted, with a CORRECTED record where log_corrected was on.
One whose unit is UNCORRECTABLE answers POISONED with its record and changes neither memory, health nor arm. A discarded entry
does the same, answers nothing and touches no tag (R21, R116 to R118, R124, R125). -/
def Obligations.ModifyServicesStoreOneUnit : Prop :=
  ∀ (s : State) (b : BankId) (entry : Entry) (scrub log : Bool), s.Settled → s.MemoryWf →
    s.served b = some (entry, scrub, log) →
    let record (code : FaultCode) : Offer :=
      { code := code, port := some entry.port, tag := some entry.tag, aperture := some entry.aperture
        unit := some entry.unit }
    let written (t : State) (data : List Byte) : Prop :=
      (∀ address, t.byteOf address =
        if address / 16 = entry.unit.toNat then data.getD (address % 16) 0 else s.byteOf address) ∧
      (∀ unit, t.unitHealth unit =
        if unit = entry.unit then
          match s.mgmt.arm with
          | some (armed, kind) => if armed = unit then injectedHealth kind else .clean
          | none => .clean
        else s.unitHealth unit) ∧
      t.mgmt =
        (match s.mgmt.arm with
          | some (armed, _) => if armed = entry.unit then { s.mgmt with arm := none, consumed := true } else s.mgmt
          | none => s.mgmt) ∧
      (∀ c, (t.bank c).corrected =
        if c = b ∧ s.unitHealth entry.unit = .correctable then count16 (s.bank c).corrected else (s.bank c).corrected) ∧
      (s.ReportsOnlyData entry → t.faults =
        if s.unitHealth entry.unit = .correctable ∧ log = true then (s.offer (record .corrected)).faults else s.faults)
    let poisoned (t : State) : Prop :=
      t.memory = s.memory ∧ t.health = s.health ∧ t.mgmt = s.mgmt ∧ (∀ c, (t.bank c).corrected = (s.bank c).corrected) ∧
        Answered s t entry { tag := entry.tag, status := .poisoned } ∧
        (s.ReportsOnlyData entry → t.faults = (s.offer (record .poisoned)).faults)
    (∀ data mask, entry.op = .writeMasked data mask →
      (s.unitHealth entry.unit = .uncorrectable → ∃ t, exec (.writeMaskedService b) s = .next t ∧ poisoned t) ∧
      (s.unitHealth entry.unit ≠ .uncorrectable → ∃ t, exec (.writeMaskedService b) s = .next t ∧
        written t
          ((List.range 16).map fun k => if mask.getLsbD k then data.getD k 0 else (s.unitData entry.unit).getD k 0) ∧
        Answered s t entry { tag := entry.tag, status := .ok })) ∧
    (∀ op high operand second, entry.op = .atomic op high operand second →
      let half := (s.unitData entry.unit).drop (if high then 8 else 0)
      let old : BitVec 64 := BitVec.ofNat 64 (leNat (half.take 8))
      let new : BitVec 64 := match op with
        | .fetchAdd => old + operand
        | .swap => operand
        | .compareSwap => if old = operand then second else old
        | .fetchOr => old ||| operand
        | .fetchAnd => old &&& operand
      (s.unitHealth entry.unit = .uncorrectable → ∃ t, exec (.atomicService b) s = .next t ∧ poisoned t) ∧
      (s.unitHealth entry.unit ≠ .uncorrectable → ∃ t, exec (.atomicService b) s = .next t ∧
        written t (if high then (s.unitData entry.unit).take 8 ++ leBytes 8 new.toNat
          else leBytes 8 new.toNat ++ (s.unitData entry.unit).drop 8) ∧
        Answered s t entry
          { tag := entry.tag, status := .ok, payload := leBytes 8 old.toNat,
            compareEqual := decide (op = .compareSwap ∧ old = operand) }))

/-- The completion of a clearing service in INITIALIZING zeroes the 4096 units of its position and makes them CLEAN, touches no
other unit, and the last of them takes the device to READY (R10, R122). -/
def Obligations.ClearingServiceZeroesItsUnits : Prop :=
  ∀ (s : State) (b : BankId), s.Settled → s.MemoryWf → s.device = .initializing → (s.bank b).state = .serving .clearing →
    ∃ t, exec (.clearingService b) s = .next t ∧
      (∀ unit : UnitAddr,
        if bankOf s.active.bankMap unit.toNat = b ∧
            localOf s.active.bankMap unit.toNat / 4096 = (s.bank b).clearPosition then
          t.unitHealth unit = .clean ∧ ∀ k < 16, t.byteOf (unit.toNat * 16 + k) = 0
        else t.unitHealth unit = s.unitHealth unit ∧
          ∀ k < 16, t.byteOf (unit.toNat * 16 + k) = s.byteOf (unit.toNat * 16 + k)) ∧
      (t.bank b).state = .idle ∧ (t.bank b).clearPosition = (s.bank b).clearPosition + 1 ∧
      t.device = (if (s.bank b).clearPosition + 1 ≥ 128 ∧ ∀ c, c ≠ b → (s.bank c).clearPosition ≥ 128 then .ready
        else .initializing) ∧
      t.mgmt = s.mgmt ∧ (∀ c, (t.bank c).corrected = (s.bank c).corrected)

/-- The completion of a refresh pays one obligation and leaves the bank IDLE with a decision point due; outside DRAINING it
changes nothing else (R146). -/
def Obligations.RefreshPaysOneObligation : Prop :=
  ∀ (s : State) (b : BankId), s.Settled → s.ParitySettled → s.device.isDraining = false →
    (s.bank b).state = .refreshing →
    exec (.refreshComplete b) s =
      .next (s.modBank b fun bank => { bank with owed := bank.owed - 1, state := .idle, decisionDue := true })

/-! ### Drains -/

/-- A PROFILE drain completes by making the pending profile active and entering READY, where every enabled link that is DOWN
trains and then DEVICE_STATE(READY) is raised; a QUIESCE drain tears every port down and enters QUIESCENT (R9, R11, R14, R16,
R20). That a completion which follows another event is a prompted event of its own is the model's reading
(notes/assumptions/11.md). -/
def Obligations.DrainCompletes : Prop :=
  ∀ s : State, s.nextDue = some .drain → s.ParitySettled →
    (∀ next, s.device = .draining (.profile next) → ∃ t, exec .drainComplete s = .next t ∧ t.device = .ready ∧
      t.active = next ∧ t.staged = s.staged ∧ t.banks = s.banks ∧ t.apertures = s.apertures ∧ t.holds = s.holds ∧
      t.mgmt = s.mgmt ∧ t.memory = s.memory ∧ t.health = s.health ∧ Raised s t (fun _ => [.deviceState .ready]) ∧
      ∀ p, (t.link p).state =
        if (s.port p).config.enabled = true ∧ (s.link p).state = .down then .training else (s.link p).state) ∧
    (s.device = .draining .quiesce → ∃ t, exec .drainComplete s = .next t ∧ t.device = .quiescent ∧
      (∀ p, (t.link p).state = .down ∧ TornDown p s t) ∧ t.active = s.active ∧ t.memory = s.memory ∧
      t.health = s.health)

/-! ### The SPI port -/

/-- STATUS returns its 8 bytes and clears the two flags, RESULT returns the last result block, an unknown opcode sets the SPI
error flag with its record, and a SUBMIT is handled by the first of its four cases (R5, R165, R166). That the unknown opcode
offers its record in CALIBRATING too is the model's reading (notes/assumptions/23.md), and that the bytes on SPI_MISO are kept
is the model's choice (notes/assumptions/15.md). -/
def Obligations.SpiTransactions : Prop :=
  (∀ s : State, s.Settled → s.device ≠ .reset →
    (∃ t, exec .spiStatus s = .next t ∧ OnlyMgmt s t ∧
      t.mgmt =
        { s.mgmt with
          refused := false, spiError := false
          miso := some
            [BitVec.ofNat 8 (slotCode s.mgmt.spiSlot), BitVec.ofNat 8 (s.mgmt.refused.toNat + 2 * s.mgmt.spiError.toNat),
             BitVec.ofNat 8 (deviceCode s.device), BitVec.ofNat 8 (drainCode s.device),
             BitVec.ofNat 8 (s.faults.alertRecord.toNat + 2 * (decide (s.faults.overflow ≠ 0)).toNat +
               4 * (decide (s.device = .halted)).toNat),
             BitVec.ofNat 8 s.mgmt.queue.length, 0, 0] }) ∧
    exec .spiResult s = .next { s with mgmt := { s.mgmt with miso := some s.mgmt.result } } ∧
    ∀ opcode : Byte, opcode ≠ 1 → opcode ≠ 2 → opcode ≠ 3 → ∃ t, exec (.spiBadOpcode opcode) s = .next t ∧
      t.mgmt = { s.mgmt with spiError := true, miso := some [] } ∧
      t.faults = ({ s with mgmt := { s.mgmt with spiError := true } }.offer { code := .spiBadOpcode }).faults ∧
      t.device = s.device ∧ t.memory = s.memory ∧ t.banks = s.banks ∧ t.apertures = s.apertures) ∧
  (∀ (s : State) (block : List Byte), s.Settled → s.device ≠ .reset →
    let code := block.getD 0 0
    if s.device = .calibrating then
      exec (.spiSubmit block) s =
        .next { s with mgmt := { s.mgmt with
          result := code :: 19 :: 12 :: List.replicate 17 0, spiSlot := .done, miso := some [] } }
    else if s.mgmt.spiSlot = .queued ∨ s.mgmt.spiSlot = .executing then
      ∃ t, exec (.spiSubmit block) s = .next t ∧ t.mgmt = { s.mgmt with refused := true, miso := some [] } ∧
        t.faults = ({ s with mgmt := { s.mgmt with refused := true } }.offer { code := .spiRefused }).faults ∧
        t.device = s.device ∧ t.memory = s.memory
    else if 8 ≤ s.mgmt.queue.length then
      exec (.spiSubmit block) s =
        .next { s with mgmt := { s.mgmt with
          result := code :: 18 :: List.replicate 18 0, spiSlot := .done, miso := some [] } }
    else
      exec (.spiSubmit block) s =
        .next { s with
          mgmt := { s.mgmt with
            queue := s.mgmt.queue ++ [{ source := .spi, block := block.take 120, placed := s.order }]
            spiSlot := if s.mgmt.queue = [] then .executing else .queued
            miso := some [] }
          order := s.order + 1 })

/-! ### Management: execution -/

/-- The head leaves the queue, the rest keeps its order, and an SPI command that becomes the head takes the slot from QUEUED to
EXECUTING, so the slot goes on describing the one SPI command or its absence. A block decodes by the codes and lengths of Table
10-5, and one that does not is rejected with BAD_DESCRIPTOR; a command that the device state does not permit by Table 10-4 is
rejected with WRONG_STATE. The end of an execution offers the MANAGEMENT record of a rejected or a SELF_TARGET outcome, then
delivers the result block with the status and the detail of the outcome, to the last result block or in-band in a response that
frees the tag, unless the sender was torn down within the execution, and prompts the waiting requests (R64, R153, R164, R168 to
R171). That the discarding shows in the tag, which no longer has holder MGMT, is the model's reading (notes/assumptions/16.md). -/
def Obligations.ExecutionRejectsAndDelivers : Prop :=
  (∀ s : State, s.popped =
    { s with mgmt := { s.mgmt with
      queue := s.mgmt.queue.tail
      spiSlot :=
        if s.mgmt.spiSlot = .queued ∧ s.mgmt.queue.tail.head?.map QueuedCommand.source = some .spi then .executing
        else s.mgmt.spiSlot } }) ∧
  (∀ (s : State) (command : QueuedCommand) (outcome : Outcome), s.SpiSlotKept → s.mgmt.queue.head? = some command →
    (s.popped.concluded command outcome).SpiSlotKept) ∧
  (∀ (block : List Byte) (which : Command), blockCommand block = some which ↔
    (which, (block.getD 0 0).toNat, block.length) ∈
      ([(.regRead, 1, 8), (.regWrite, 2, 12), (.apertureCreate, 3, 20), (.apertureModify, 4, 20), (.apertureRetire, 5, 8),
        (.apertureRead, 6, 8), (.portConfig, 7, 12), (.portReset, 8, 8), (.logPop, 9, 4), (.logPeek, 10, 8),
        (.logClear, 11, 4), (.profileStage, 12, 12), (.profileCommit, 13, 4), (.quiesce, 14, 4), (.resume, 15, 4),
        (.datapathReset, 16, 4), (.holdBreak, 17, 8), (.injectEcc, 18, 12), (.halt, 19, 4)] : List (Command × Nat × Nat))) ∧
  (∀ (which : Command) (device : DevState), permitted which device = true ↔
    match device with
    | .reset | .calibrating => False
    | .unconfigured | .initializing => which ∉ [.resume, .quiesce, .datapathReset, .holdBreak]
    | .ready => True
    | .draining _ => which ∉ [.profileCommit, .quiesce]
    | .quiescent => which ∉ [.quiesce, .datapathReset, .holdBreak]
    | .halted => which ∈ [.regRead, .apertureRead, .logPop, .logPeek, .logClear]) ∧
  (∀ (s : State) (command : QueuedCommand), s.Heads command →
    (command.block.length < 4 ∨ (command.block.getD 0 0).toNat = 0 ∨ 19 < (command.block.getD 0 0).toNat →
      exec .unknownCommandCode s = .next (s.popped.concluded command (.rejected .badDescriptor))) ∧
    (blockCommand command.block = none → namedCommand command.block ≠ none →
      s.execute command = s.popped.concluded command (.rejected .badDescriptor)) ∧
    (∀ which, blockCommand command.block = some which → permitted which s.device = false →
      s.execute command = s.popped.concluded command (.rejected .wrongState))) ∧
  (∀ (s : State) (command : QueuedCommand) (outcome : Outcome), s.ParitySettled →
    let status : Status := match outcome with
      | .ok _ => .ok
      | .rejected _ => .mgmtRejected
      | .selfTarget => .selfTarget
    let detail : Option Detail := match outcome with
      | .rejected detail => some detail
      | _ => none
    let data : List Byte := match outcome with
      | .ok data => data
      | _ => []
    let result : List Byte :=
      [command.block.getD 0 0, BitVec.ofNat 8 (statusCode status), BitVec.ofNat 8 ((detail.map detailCode).getD 0), 0] ++
        data ++ List.replicate (16 - data.length) 0
    let record (code : FaultCode) : Offer :=
      { code := code
        port := match command.source with
          | .spi => none
          | .port p _ => some p
        tag := match command.source with
          | .spi => none
          | .port _ tag => some tag
        aperture :=
          if blockCommand command.block ∈ [some .apertureCreate, some .apertureModify, some .apertureRetire,
              some .apertureRead] ∧ numberAt command.block 4 2 ≤ 1023 then some (Fin.ofNat 1024 (numberAt command.block 4 2))
          else none }
    let recorded : State := match outcome with
      | .ok _ | .rejected .notNow | .rejected .logEmpty => s
      | .rejected detail => s.offer (record (.rejected detail))
      | .selfTarget => s.offer (record .selfTarget)
    s.concluded command outcome = (recorded.deliver command.source command.block outcome).promptAttempts ∧
    (command.source = .spi → s.deliver command.source command.block outcome =
      { s with mgmt := { s.mgmt with result := result, spiSlot := .done } }) ∧
    (∀ p tag, command.source = .port p tag → s.tagHolder p tag = some .mgmt → (s.port p).egress.length < 32 →
      (s.concluded command outcome).tagHolder p tag = none ∧
        (s.port p).egress ++ [{
          placed := recorded.order, response := { tag := tag, status := status, detail := detail, payload := result } }] <+:
            ((s.concluded command outcome).port p).egress) ∧
    (∀ p tag, command.source = .port p tag → s.tagHolder p tag = some .mgmt → 32 ≤ (s.port p).egress.length →
      (s.concluded command outcome).tagHolder p tag = none ∧
        ((s.concluded command outcome).port p).egress = (s.port p).egress) ∧
    (∀ p tag, command.source = .port p tag → s.tagHolder p tag ≠ some .mgmt →
      s.concluded command outcome = recorded.promptAttempts)) ∧
  ∀ s : State, (∀ p, s.promptAttempts.port p =
      if (s.port p).head = .waitingSpace then { s.port p with attemptDue := true } else s.port p) ∧
    { s.promptAttempts with ports := s.ports } = s

/-- The words of Tables 11-1 to 11-4 hold the fields of the state at their bits, and no other address names one; REG_READ
returns the register word, REG_WRITE performs the write action of an RC register, and both reject an address that names no
register; REG_WRITE rejects a read-only register (R172, R176, R177). -/
def Obligations.RegisterCommands : Prop :=
  (∀ s : State,
    let word (address : Nat) : Option Nat := (registerAt address).map s.readRegister
    let profile (profile : Profile) : Nat :=
      profile.holdCeiling + profile.refreshInterval * 2 ^ 16 + profile.postponeLimit * 2 ^ 22 +
        (if profile.scrubOnCorrect then 2 ^ 25 else 0) + (if profile.logCorrected then 2 ^ 26 else 0) +
        (if profile.bankMap = .linear then 2 ^ 27 else 0)
    word 0x00 = some 0x80640001 ∧
    word 0x01 = some (match s.device with
      | .reset => 0
      | .calibrating => 1
      | .unconfigured => 2
      | .initializing => 3
      | .ready => 4
      | .draining (.profile _) => 5 + 1 * 2 ^ 4
      | .draining .quiesce => 5 + 2 * 2 ^ 4
      | .quiescent => 6
      | .halted => 7) ∧
    word 0x02 = some s.tickCount.toNat ∧ word 0x03 = some (profile s.active) ∧ word 0x04 = some (profile s.staged) ∧
    (∀ p : PortId,
      word (0x08 + p.val) = some ((if (s.port p).config.enabled then 1 else 0) + (s.port p).config.tier.val * 2 +
        (if (s.port p).config.mgmtCapable then 2 ^ 3 else 0) + (if (s.port p).config.maskAttention then 2 ^ 4 else 0) +
        (if (s.port p).config.maskFreed then 2 ^ 5 else 0)) ∧
      word (0x10 + 2 * p.val) = some ((match (s.link p).state with
          | .down => 0
          | .training => 1
          | .active => 2
          | .retrain => 3
          | .failed => 4) +
        ((List.finRange 32).filter fun tag => (s.tagHolder p tag).isSome).length * 2 ^ 3 +
        (s.link p).replay.length * 2 ^ 9 + (s.link p).retrains.toNat * 2 ^ 16) ∧
      word (0x11 + 2 * p.val) = some ((s.link p).crcErrors.toNat + (s.link p).replays.toNat * 2 ^ 16)) ∧
    (∀ b : BankId, word (0x20 + b.val) = some ((s.bank b).owed + (s.bank b).owedMax * 2 ^ 4 +
      (s.bank b).queue.length * 2 ^ 8 + (s.bank b).parked * 2 ^ 12 + (s.bank b).corrected.toNat * 2 ^ 16)) ∧
    word 0x30 = some (allHolds.filter fun h => (s.hold h).isSome).length ∧
    word 0x31 = some (s.faults.log.length + s.faults.overflow.toNat * 2 ^ 16) ∧
    word 0x32 = some s.faults.nextSequence.toNat ∧ word 0x33 = some s.faults.classMask.toNat ∧
    word 0x34 = some s.faults.alertMask.toNat ∧
    word 0x35 = some ((match s.mgmt.arm with
      | none => 0
      | some (unit, .correctable) => unit.toNat + 1 * 2 ^ 24
      | some (unit, .uncorrectable) => unit.toNat + 2 * 2 ^ 24) + (if s.mgmt.consumed then 2 ^ 31 else 0)) ∧
    word 0x36 = some s.mgmt.queue.length ∧
    ∀ address, 0x05 ≤ address ∧ address ≤ 0x07 ∨ 0x0C ≤ address ∧ address ≤ 0x0F ∨ 0x18 ≤ address ∧ address ≤ 0x1F ∨
      0x28 ≤ address ∧ address ≤ 0x2F ∨ 0x37 ≤ address → registerAt address = none) ∧
  ∀ (s : State) (command : QueuedCommand),
    let address := numberAt command.block 4 2
    let value := numberAt command.block 8 4
    (s.Executes command .regRead →
      exec .regRead s = .next (s.popped.concluded command (match registerAt address with
        | some register => .ok (leBytes 4 (s.popped.readRegister register))
        | none => .rejected .badRegister))) ∧
    (s.Executes command .regWrite →
      (registerAt address = none → exec .regWrite s = .next (s.popped.concluded command (.rejected .badRegister))) ∧
      (address ≤ 0xB ∨ address = 0x30 ∨ address = 0x35 ∨ address = 0x36 → registerAt address ≠ none →
        exec .regWrite s = .next (s.popped.concluded command (.rejected .readOnly))) ∧
      (∀ p : PortId, (address = 0x10 + 2 * p.val ∨ address = 0x11 + 2 * p.val) → ∀ i ∈ [Instr.regWrite, .portstatWrite],
        ∃ t, exec i s = .next (State.concluded t command (.ok [])) ∧ OnlyLink p s.popped t ∧
          t.link p = { s.link p with crcErrors := 0, replays := 0, retrains := 0 }) ∧
      (∀ b : BankId, address = 0x20 + b.val → ∀ i ∈ [Instr.regWrite, .bankstatWrite],
        exec i s = .next ((s.popped.modBank b fun bank =>
          { bank with corrected := 0, owedMax := bank.owed }).concluded command (.ok []))) ∧
      (address = 0x31 ∨ address = 0x32 → ∀ i ∈ [Instr.regWrite, .logstatWrite],
        exec i s = .next ((s.popped.modFaults fun u => { u with overflow := 0 }).concluded command (.ok []))) ∧
      (address = 0x33 → ∀ i ∈ [Instr.regWrite, .logclassWrite],
        exec i s = .next ((s.popped.modFaults fun u =>
          { u with classMask := BitVec.ofNat 7 value }).concluded command (.ok []))) ∧
      (address = 0x34 → ∀ i ∈ [Instr.regWrite, .alertmaskWrite],
        exec i s = .next ((s.popped.modFaults fun u =>
          { u with alertMask := BitVec.ofNat 7 value }).attentionTest.concluded command (.ok []))))

/-- A descriptor is valid exactly where the five conditions of R71 hold of the argument bytes (R71, R172). -/
def Obligations.DescriptorValidity : Prop :=
  ∀ block : List Byte,
    let base := numberAt block 8 4
    let limit := numberAt block 12 4
    let granularity := (block.getD 16 0).toNat
    let effective := if granularity = 0 then limit else (limit + 1) * 256 - 1
    ((descriptorOf block).isSome ↔
      (base % 4 = 0 ∧ base ≤ 0x3FFFFC) ∧ granularity ≤ 1 ∧
        (if granularity = 0 then limit ≤ 0x3FFFFF else limit ≤ 0x3FFF) ∧ base + effective ≤ 0x3FFFFF ∧
        (block.getD 18 0).toNat ≤ 3) ∧
    ∀ descriptor, descriptorOf block = some descriptor →
      descriptor.base.toNat = base ∧ descriptor.limit.toNat = limit ∧
        descriptor.granularity = (if granularity = 0 then .unit else .page) ∧
        descriptor.rights = rightsOf (block.getD 17 0) ∧ descriptor.accessTier.val = (block.getD 18 0).toNat ∧
        descriptor.portMask = (block.getD 19 0).setWidth 4

/-- APERTURE_CREATE applies its checks in order, makes a FREE entry LIVE with the supplied fields and its generation kept, and
returns its handle; APERTURE_READ changes nothing and returns the snapshot, whose bytes are those of R172; an index 0 or above
1023 is BAD_INDEX for every aperture command; a lookup of either that fails the parity check takes the device to HALTED with its
record, or in HALTED offers the record alone, and CREATE is rejected with WRONG_STATE while READ returns the snapshot (R74, R75,
R78, R80, R84 to R86, R172). -/
def Obligations.ApertureCreateReadAndBadIndex : Prop :=
  (∀ entry : ApEntry, entrySnapshot entry =
    [match entry.state with
      | .free => 0
      | .live => 1
      | .retiring => 2,
      BitVec.ofNat 8 entry.generation.toNat,
      if entry.granularity = .unit then 0 else 1,
      BitVec.ofNat 8 (entry.rights.read.toNat + 2 * entry.rights.write.toNat + 4 * entry.rights.atomic.toNat),
      BitVec.ofNat 8 entry.accessTier.val, BitVec.ofNat 8 entry.portMask.toNat, if entry.parityBad then 1 else 0,
      BitVec.ofNat 8 entry.bindings, BitVec.ofNat 8 entry.inFlight, BitVec.ofNat 8 entry.base.toNat,
      BitVec.ofNat 8 (entry.base.toNat / 2 ^ 8), BitVec.ofNat 8 (entry.base.toNat / 2 ^ 16),
      BitVec.ofNat 8 entry.limit.toNat, BitVec.ofNat 8 (entry.limit.toNat / 2 ^ 8),
      BitVec.ofNat 8 (entry.limit.toNat / 2 ^ 16), 0]) ∧
  (∀ (s : State) (command : QueuedCommand) (i : ApIndex), i.val = numberAt command.block 4 2 → i ≠ 0 →
    (s.entry i).parityBad = false →
    (s.Executes command .apertureCreate →
      if (s.entry i).state ≠ .free then
        exec .apertureCreate s = .next (s.popped.concluded command (.rejected .notFree))
      else match descriptorOf command.block with
        | none => exec .apertureCreate s = .next (s.popped.concluded command (.rejected .badDescriptor))
        | some d => exec .apertureCreate s = .next ((s.popped.modEntry i fun entry =>
            { entry with
              state := .live, base := d.base, limit := d.limit, granularity := d.granularity, rights := d.rights,
              accessTier := d.accessTier, portMask := d.portMask }).concluded command
            (.ok (leBytes 2 (i.val * 64 + (s.entry i).generation.toNat * 4))))) ∧
    (s.Executes command .apertureRead →
      exec .apertureRead s = .next (s.popped.concluded command (.ok (entrySnapshot (s.entry i)))))) ∧
  (∀ (s : State) (command : QueuedCommand) (i : ApIndex), i.val = numberAt command.block 4 2 → i ≠ 0 →
    (s.entry i).parityBad = true →
    let record : Offer := { code := .tableParity, aperture := some i }
    (s.Executes command .apertureCreate →
      exec .apertureCreate s = .next ((s.popped.enterHalted record).concluded command (.rejected .wrongState))) ∧
    (s.Executes command .apertureRead →
      exec .apertureRead s =
        .next ((if s.device = .halted then s.popped.offer record else s.popped.enterHalted record).concluded command
          (.ok (entrySnapshot (s.entry i)))))) ∧
  (∀ (s : State) (command : QueuedCommand), numberAt command.block 4 2 = 0 ∨ 1023 < numberAt command.block 4 2 →
    let rejected := Host.Outcome.next (s.popped.concluded command (.rejected .badIndex))
    (s.Executes command .apertureCreate → exec .apertureCreate s = rejected) ∧
    (s.Executes command .apertureModify → exec .apertureModify s = rejected) ∧
    (s.Executes command .apertureRetire → exec .apertureRetire s = rejected) ∧
    (s.Executes command .apertureRead → exec .apertureRead s = rejected))

/-- APERTURE_MODIFY of a LIVE entry replaces the six fields, refreshes the copy of every BOUND slot of the entry that still
passes the port and tier tests and makes the others STALE with their old copy; no other slot is touched; each port with a slot
made STALE gets SLOTS_STALE with their set. A lookup that fails the parity check, an entry that is not LIVE and an invalid
descriptor are refused in this order (R75, R76, R84, R85). -/
def Obligations.ApertureModifyWalksTheSlots : Prop :=
  (∀ (s : State) (command : QueuedCommand) (i : ApIndex), s.Executes command .apertureModify →
    i.val = numberAt command.block 4 2 → i ≠ 0 →
    ((s.entry i).parityBad = true → exec .apertureModify s =
      .next ((s.popped.enterHalted { code := .tableParity, aperture := some i }).concluded command
        (.rejected .wrongState))) ∧
    ((s.entry i).parityBad = false → (s.entry i).state ≠ .live →
      exec .apertureModify s = .next (s.popped.concluded command (.rejected .notLive))) ∧
    ((s.entry i).parityBad = false → (s.entry i).state = .live → descriptorOf command.block = none →
      exec .apertureModify s = .next (s.popped.concluded command (.rejected .badDescriptor)))) ∧
  ∀ (s : State) (command : QueuedCommand) (i : ApIndex) (d : Descriptor), s.Executes command .apertureModify →
    i.val = numberAt command.block 4 2 → i ≠ 0 → (s.entry i).parityBad = false → (s.entry i).state = .live →
    descriptorOf command.block = some d →
    ∃ t : State, exec .apertureModify s = .next (t.concluded command (.ok [])) ∧
      t.entry i =
        { s.entry i with
          base := d.base, limit := d.limit, granularity := d.granularity, rights := d.rights,
          accessTier := d.accessTier, portMask := d.portMask } ∧
      (∀ j, j ≠ i → t.entry j = s.entry j) ∧
      (∀ p k, t.slot p k =
        match s.slot p k with
        | .bound copy =>
          if handleIndex copy.handle = i ∧ handleGeneration copy.handle = (s.entry i).generation then
            if d.portMask.getLsbD p.val = true ∧ copy.effectiveTier ≤ d.accessTier then
              .bound { copy with
                base := d.base, limit := BitVec.ofNat 22 (effectiveLimit d.granularity d.limit.toNat)
                granularity := d.granularity, rights := d.rights }
            else .stale copy
          else .bound copy
        | other => other) ∧
      Raised s t (staleEvents s t) ∧ t.holds = s.holds ∧ t.banks = s.banks ∧ t.device = s.device ∧ t.memory = s.memory ∧
      t.health = s.health

/-- APERTURE_RETIRE of a LIVE entry makes it RETIRING, or FREE with the next generation where nothing is in flight, makes every
BOUND slot that names the index STALE and ends every hold of the aperture, with SLOTS_STALE, HOLD_BROKEN and, where it is freed,
APERTURE_FREED in this order; a lookup that fails the parity check and an entry that is not LIVE are refused. The completion
that brings the in-flight count of a RETIRING entry to 0 frees it with APERTURE_FREED for the subscribed ports of its mask,
unless its lookup fails and the device is HALTED; that of an orphaned entry touches no aperture (R21, R78, R79, R82, R84 to R86,
R119, R137). -/
def Obligations.ApertureRetireStalesAndFrees : Prop :=
  (∀ (s : State) (command : QueuedCommand) (i : ApIndex), s.Executes command .apertureRetire →
    i.val = numberAt command.block 4 2 → i ≠ 0 →
    ((s.entry i).parityBad = true → exec .apertureRetire s =
      .next ((s.popped.enterHalted { code := .tableParity, aperture := some i }).concluded command
        (.rejected .wrongState))) ∧
    ((s.entry i).parityBad = false → (s.entry i).state ≠ .live →
      exec .apertureRetire s = .next (s.popped.concluded command (.rejected .notLive)))) ∧
  (∀ (s : State) (b : BankId) (entry : Entry) (scrub log : Bool), s.Settled → s.served b = some (entry, scrub, log) →
    let i := entry.aperture
    let counted := { s.entry i with inFlight := (s.entry i).inFlight - 1 }
    ∃ t, exec (completionOf entry.op b) s = .next t ∧ (∀ j, j ≠ i → t.entry j = s.entry j) ∧
      (entry.orphaned = true → t.entry i = s.entry i ∧ t.device = s.device) ∧
      (entry.orphaned = false → 2 ≤ (s.entry i).inFlight → t.entry i = counted ∧ t.device = s.device) ∧
      (entry.orphaned = false → (s.entry i).inFlight = 1 → (s.entry i).parityBad = true →
        t.entry i = counted ∧ t.device = .halted) ∧
      (entry.orphaned = false → (s.entry i).inFlight = 1 → (s.entry i).parityBad = false →
        t.device = s.device ∧
        (∀ p, (s.entry i).state = .retiring → (s.entry i).portMask.getLsbD p.val = true →
          (s.port p).config.maskFreed = true → (s.link p).state ∉ [.down, .failed] → (s.port p).events.length ≤ 4 →
          .apertureFreed i ∈ t.eventsOf p) ∧
        t.entry i =
          if (s.entry i).state = .retiring then
            { counted with
              state := .free, generation := (s.entry i).generation + 1, base := 0, limit := 0, granularity := .unit,
              rights := { read := false, write := false, atomic := false }, accessTier := 0, portMask := 0 }
          else counted)) ∧
  ∀ (s : State) (command : QueuedCommand) (i : ApIndex), s.Executes command .apertureRetire →
    i.val = numberAt command.block 4 2 → i ≠ 0 → (s.entry i).parityBad = false → (s.entry i).state = .live →
    ∃ t : State, exec .apertureRetire s = .next (t.concluded command (.ok
        (if (s.entry i).inFlight = 0 then [0, BitVec.ofNat 8 ((s.entry i).generation + 1).toNat]
          else [2, BitVec.ofNat 8 (s.entry i).generation.toNat]))) ∧
      t.entry i =
        (if (s.entry i).inFlight = 0 then
          { s.entry i with
            state := .free, generation := (s.entry i).generation + 1, base := 0, limit := 0, granularity := .unit,
            rights := { read := false, write := false, atomic := false }, accessTier := 0, portMask := 0 }
        else { s.entry i with state := .retiring }) ∧
      (∀ j, j ≠ i → t.entry j = s.entry j) ∧
      (∀ p k, t.slot p k =
        match s.slot p k with
        | .bound copy => if handleIndex copy.handle = i then .stale copy else .bound copy
        | other => other) ∧
      (∀ h hold, s.hold h = some hold →
        t.hold h = if hold.aperture = i ∧ hold.generation = (s.entry i).generation then none else some hold) ∧
      Raised s t (fun p => staleEvents s t p ++
        brokenEvents s .retire (fun hold => decide (hold.aperture = i ∧ hold.generation = (s.entry i).generation)) p ++
        if (s.entry i).inFlight = 0 ∧ (s.entry i).portMask.getLsbD p.val = true ∧ (s.port p).config.maskFreed = true then
          [.apertureFreed i]
        else []) ∧
      t.device = s.device ∧ t.memory = s.memory ∧ t.health = s.health

/-- PORT_CONFIG and PORT_RESET: a port number above 3 is BAD_PORT, an in-band sender may neither disable nor reset its own port,
and else the configuration is replaced by the argument bytes, with SLOTS_STALE for the slots that a new tier makes STALE, or the
port torn down with its counters cleared (R23, R93, R170, R173). -/
def Obligations.PortCommands : Prop :=
  (∀ block : List Byte, configArgument block =
    { enabled := (block.getD 5 0).getLsbD 0, tier := Fin.ofNat 4 ((block.getD 6 0).toNat % 4)
      mgmtCapable := (block.getD 7 0).getLsbD 0, maskAttention := (block.getD 8 0).getLsbD 0
      maskFreed := (block.getD 8 0).getLsbD 1 }) ∧
  ∀ (s : State) (command : QueuedCommand),
    let block := command.block
    let new := configArgument block
    (s.Executes command .portConfig → 3 < (block.getD 4 0).toNat →
      exec .portConfig s = .next (s.popped.concluded command (.rejected .badPort))) ∧
    (s.Executes command .portReset → 3 < (block.getD 4 0).toNat →
      exec .portReset s = .next (s.popped.concluded command (.rejected .badPort))) ∧
    ∀ p : PortId, p.val = (block.getD 4 0).toNat →
      (s.Executes command .portConfig → senderPort command.source = some p → new.enabled = false →
        exec .portConfig s = .next (s.popped.concluded command .selfTarget)) ∧
      (s.Executes command .portReset → senderPort command.source = some p →
        exec .portReset s = .next (s.popped.concluded command .selfTarget)) ∧
      (s.Executes command .portConfig → senderPort command.source ≠ some p ∨ new.enabled = true →
        ∃ t : State, exec .portConfig s = .next (t.concluded command (.ok [])) ∧ (t.port p).config = new ∧
          ((s.port p).config.enabled = true → new.enabled = false → s.device.isDraining = false →
            (t.link p).state = (if (s.link p).state = .failed then .failed else .down) ∧ ∀ k, t.slot p k = .empty) ∧
          ((s.port p).config.enabled = false ∨ new.enabled = true → (s.port p).config.tier ≠ new.tier →
            ∀ k, t.slot p k = match s.slot p k with | .bound copy => .stale copy | other => other) ∧
          ((s.port p).config.enabled = true → new.enabled = true → (s.port p).config.tier ≠ new.tier →
            Raised s t fun q => if q = p then staleEvents s t p else []) ∧
          ((s.port p).config.enabled = false → new.enabled = true → (s.link p).state = .down →
            (t.link p).state = if s.device = .ready ∨ s.device.isDraining = true then .training else .down) ∧
          t.memory = s.memory ∧ t.health = s.health) ∧
      (s.Executes command .portReset → senderPort command.source ≠ some p → s.device.isDraining = false →
        ∃ t : State, exec .portReset s = .next (t.concluded command (.ok [])) ∧ TornDown p s t ∧
          (t.link p).crcErrors = 0 ∧ (t.link p).replays = 0 ∧ (t.link p).retrains = 0 ∧
          (t.link p).state = (if (s.port p).config.enabled = true ∧ s.device = .ready then .training else .down) ∧
          t.memory = s.memory ∧ t.health = s.health)

/-- LOG_POP removes the oldest record and returns its block, LOG_PEEK returns the record at a position and changes nothing,
LOG_CLEAR empties the log and clears the overflow counter; a missing record is LOG_EMPTY (R156, R157). The block of a record is
Table 9-1, with the classes and the values of Table 9-2 (R152, R153). -/
def Obligations.LogCommands : Prop :=
  (∀ (s : State) (command : QueuedCommand),
    (s.Executes command .logPop → exec .logPop s = .next (match s.faults.log with
      | [] => s.popped.concluded command (.rejected .logEmpty)
      | oldest :: rest => (s.popped.modFaults fun u => { u with log := rest, episode := false }).attentionTest.concluded
          command (.ok (recordBlock oldest)))) ∧
    (s.Executes command .logPeek →
      exec .logPeek s = .next (s.popped.concluded command
        (match s.faults.log[(command.block.getD 4 0).toNat]? with
          | some record => .ok (recordBlock record)
          | none => .rejected .logEmpty))) ∧
    (s.Executes command .logClear →
      exec .logClear s = .next ((s.popped.modFaults fun u =>
        { u with log := [], overflow := 0, episode := false }).attentionTest.concluded command (.ok [])))) ∧
  (∀ record : FaultRecord,
    let fault := record.fault
    recordBlock record =
      [BitVec.ofNat 8 record.sequence.toNat, BitVec.ofNat 8 (record.sequence.toNat / 2 ^ 8),
        BitVec.ofNat 8 (classValue (faultClass fault.code) + 8 * fault.port.isSome.toNat + 16 * fault.tag.isSome.toNat +
          32 * fault.slot.isSome.toNat + 64 * fault.aperture.isSome.toNat + 128 * fault.unit.isSome.toNat),
        BitVec.ofNat 8 (codeValue fault.code),
        BitVec.ofNat 8 ((fault.port.map Fin.val).getD 0 + 4 * (fault.slot.map Fin.val).getD 0),
        BitVec.ofNat 8 ((fault.tag.map Fin.val).getD 0), BitVec.ofNat 8 ((fault.aperture.map Fin.val).getD 0),
        BitVec.ofNat 8 ((fault.aperture.map Fin.val).getD 0 / 2 ^ 8),
        BitVec.ofNat 8 ((fault.unit.map BitVec.toNat).getD 0), BitVec.ofNat 8 ((fault.unit.map BitVec.toNat).getD 0 / 2 ^ 8),
        BitVec.ofNat 8 ((fault.unit.map BitVec.toNat).getD 0 / 2 ^ 16), record.repeats,
        BitVec.ofNat 8 record.stamp.toNat, BitVec.ofNat 8 (record.stamp.toNat / 2 ^ 8),
        BitVec.ofNat 8 (record.stamp.toNat / 2 ^ 16), BitVec.ofNat 8 (record.stamp.toNat / 2 ^ 24)]) ∧
  ∀ code : FaultCode, code ≠ .rejected .notNow → code ≠ .rejected .logEmpty →
    (code, classValue (faultClass code), codeValue code) ∈
    ([(.unbound, 1, 1), (.nullAperture, 1, 2), (.staleBinding, 1, 3), (.deniedRights, 1, 4), (.badAlign, 1, 5),
      (.outOfBounds, 1, 6), (.noAperture, 1, 7), (.deniedPort, 1, 8), (.deniedTier, 1, 9), (.mgmtDenied, 1, 10),
      (.corrected, 2, 1), (.poisoned, 2, 2), (.retrainLocal, 3, 1), (.retrainRemote, 3, 2), (.linkFailed, 3, 3),
      (.hostReset, 3, 4), (.badAck, 3, 5), (.badRequest, 4, 1), (.shortRequest, 4, 2), (.tagReuse, 4, 3),
      (.ingressFull, 4, 4), (.responseLost, 4, 5), (.eventLost, 4, 6), (.holdBadAlign, 5, 1), (.holdBadSpan, 5, 2),
      (.holdOutOfBounds, 5, 3), (.holdExhausted, 5, 4), (.holdConflict, 5, 5), (.held, 5, 6), (.noHold, 5, 7),
      (.holdExpired, 5, 8), (.haltCommand, 6, 1), (.tableParity, 6, 2), (.rejected .badIndex, 7, 1),
      (.rejected .notFree, 7, 2), (.rejected .notLive, 7, 3), (.rejected .badDescriptor, 7, 4),
      (.rejected .badProfile, 7, 5), (.rejected .profileLocked, 7, 6), (.rejected .wrongState, 7, 7),
      (.rejected .badPort, 7, 8), (.rejected .noHold, 7, 9), (.rejected .readOnly, 7, 10),
      (.rejected .badRegister, 7, 11), (.selfTarget, 7, 20),
      (.spiRefused, 7, 21), (.spiBadOpcode, 7, 22)] : List (FaultCode × Nat × Nat))

/-- PROFILE_STAGE replaces the staged profile as a whole where every field is in range and else rejects it with BAD_PROFILE, and
PROFILE_COMMIT acts by device state, with the bank map locked outside UNCONFIGURED; entry to DRAINING breaks every hold with
reason DRAIN and then raises DEVICE_STATE(DRAINING) (R7, R8, R10, R12, R16, R137, R174). -/
def Obligations.ProfileCommands : Prop :=
  (∀ block : List Byte,
    let byte (place : Nat) : Nat := (block.getD place 0).toNat
    ((profileArgument block).isSome ↔ byte 4 ≤ 1 ∧ (2 ≤ byte 5 ∧ byte 5 ≤ 32) ∧ byte 6 ≤ 4 ∧ byte 7 ≤ 1 ∧ byte 8 ≤ 1 ∧
      1 ≤ numberAt block 10 2) ∧
    ∀ profile, profileArgument block = some profile → profile =
      { bankMap := if byte 4 = 0 then .interleave else .linear, refreshInterval := byte 5, postponeLimit := byte 6,
        scrubOnCorrect := decide (byte 7 = 1), logCorrected := decide (byte 8 = 1),
        holdCeiling := numberAt block 10 2 }) ∧
  ∀ (s : State) (command : QueuedCommand),
    (s.Executes command .profileStage → exec .profileStage s = .next (match profileArgument command.block with
      | some profile => { s.popped with staged := profile }.concluded command (.ok [])
      | none => s.popped.concluded command (.rejected .badProfile))) ∧
    (s.Executes command .profileCommit → s.device ≠ .unconfigured → s.staged.bankMap ≠ s.active.bankMap →
      exec .profileCommit s = .next (s.popped.concluded command (.rejected .profileLocked))) ∧
    (s.Executes command .profileCommit → s.device = .unconfigured → ∃ t : State,
      exec .profileCommit s = .next (t.concluded command (.ok [])) ∧ t.device = .initializing ∧ t.active = s.staged ∧
        (∀ b, (t.bank b).owed = 0 ∧ (t.bank b).sinceRefresh = 0 ∧ (t.bank b).owedMax = 0 ∧ (t.bank b).clearPosition = 0 ∧
          (t.bank b).state = (s.bank b).state) ∧
        { t with device := s.device, active := s.active, banks := s.banks } = s.popped) ∧
    (s.Executes command .profileCommit → s.device = .initializing ∨ s.device = .quiescent →
      s.staged.bankMap = s.active.bankMap →
      exec .profileCommit s = .next ({ s.popped with active := s.staged }.concluded command (.ok []))) ∧
    (s.Executes command .profileCommit → s.device = .ready → s.staged.bankMap = s.active.bankMap →
      exec .profileCommit s = .next ((s.popped.enterDraining (.profile s.staged)).concluded command (.ok []))) ∧
    ∀ reason, (∃ b, (s.bank b).queue ≠ []) →
      let t := s.enterDraining reason
      t.device = .draining reason ∧ (∀ h, t.hold h = none) ∧ t.active = s.active ∧ t.apertures = s.apertures ∧
        Raised s t (fun p => brokenEvents s .drain (fun _ => true) p ++ [.deviceState .draining])

/-- QUIESCE breaks every hold and enters DRAINING; RESUME has no effect in READY and enters READY from DRAINING and QUIESCENT;
HALT enters HALTED; entry to READY and to HALTED trains the enabled links that are DOWN. The broken holds raise HOLD_BROKEN,
HALT offers its record, and each entry then raises DEVICE_STATE (R11, R12, R15 to R18, R137). That a LOG_ATTENTION of the record
of HALT goes before DEVICE_STATE(HALTED) is the model's reading (notes/assumptions/25.md). -/
def Obligations.QuiesceResumeAndHalt : Prop :=
  (∀ (s : State) (command : QueuedCommand), s.Executes command .quiesce → (∃ b, (s.bank b).queue ≠ []) →
    ∃ t : State, exec .quiesce s = .next (t.concluded command (.ok [])) ∧ t.device = .draining .quiesce ∧
      (∀ h, t.hold h = none) ∧ (∀ b, ∀ entry ∈ (t.bank b).queue, entry.parkedOn ≠ none →
        ∃ h, s.hold h = none ∧ entry.parkedOn = some h) ∧
      t.active = s.active ∧ t.apertures = s.apertures ∧ t.memory = s.memory ∧ t.health = s.health ∧
      Raised s t fun p => brokenEvents s .drain (fun _ => true) p ++ [.deviceState .draining]) ∧
  (∀ (s : State) (command : QueuedCommand),
    (s.Executes command .resume → s.device = .ready →
      exec .resume s = .next (s.popped.concluded command (.ok []))) ∧
    (s.Executes command .resume → s.device ≠ .ready → ∃ t : State,
      exec .resume s = .next (t.concluded command (.ok [])) ∧ t.device = .ready ∧
        (∀ p, (t.link p).state =
          if (s.port p).config.enabled = true ∧ (s.link p).state = .down then .training else (s.link p).state) ∧
        t.active = s.active ∧ t.staged = s.staged ∧ t.banks = s.banks ∧ t.apertures = s.apertures ∧ t.holds = s.holds ∧
        t.memory = s.memory ∧ t.health = s.health ∧ Raised s t (fun _ => [.deviceState .ready])) ∧
    (s.Executes command .halt → ∃ t : State,
      exec .halt s = .next (t.concluded command (.ok [])) ∧ t.device = .halted ∧
        (∀ p, (t.link p).state =
          if (s.port p).config.enabled = true ∧ (s.link p).state = .down then .training else (s.link p).state) ∧
        ((∀ p, (s.port p).events.length ≤ 6) →
          let recorded := s.offer
            { code := .haltCommand
              port := match command.source with
                | .spi => none
                | .port p _ => some p }
          t.faults = recorded.faults ∧ ∀ p, t.eventsOf p =
            recorded.eventsOf p ++ if (t.link p).state ∈ [.down, .failed] then [] else [.deviceState .halted]) ∧
        t.alertAsserted = true ∧ t.banks = s.banks ∧ t.apertures = s.apertures ∧ t.holds = s.holds ∧
        t.memory = s.memory ∧ t.health = s.health))

/-- DATAPATH_RESET tears every port down, with fresh training of every enabled link that is not FAILED, while a FAILED link
stays FAILED and every other one is DOWN; makes every RETIRING entry FREE with the next generation and nothing in flight, its
entries in service orphaned; keeps every LIVE one; clears the ECC injection arm; and ends a drain in READY, applying the pending
profile of a PROFILE drain (R20, R21, R24, R79). The orphaning is stated where all entries of the aperture are in service, and
where its in-flight count is the number of its entries that are not orphaned and only entries in service are orphaned (R82).
That a RETIRING entry whose lookup failed in one of the teardowns is freed too is the model's reading (notes/assumptions/22.md). -/
def Obligations.DatapathResetEffects : Prop :=
  ∀ (s : State) (command : QueuedCommand), s.Executes command .datapathReset →
    ∃ t : State, exec .datapathReset s = .next (t.concluded command (.ok [])) ∧ t.device = .ready ∧
      (∀ p, TornDown p s t) ∧ (∀ h, t.hold h = none) ∧
      (∀ i, (s.entry i).state = .retiring → t.entry i =
        { state := .free, generation := (s.entry i).generation + 1, base := 0, limit := 0, granularity := .unit,
          rights := { read := false, write := false, atomic := false }, accessTier := 0, portMask := 0,
          parityBad := false, bindings := (t.entry i).bindings, inFlight := 0 }) ∧
      (∀ i, (s.entry i).state = .retiring →
        (∀ b, ∀ entry ∈ (s.bank b).queue, entry.aperture = i → inService (s.bank b) entry = true) ∨
          ((s.entry i).inFlight = s.entriesNaming i ∧
            ∀ b, ∀ entry ∈ (s.bank b).queue, entry.orphaned = true → inService (s.bank b) entry = true) →
        ∀ b, ∀ entry ∈ (t.bank b).queue, entry.aperture = i → entry.orphaned = true) ∧
      (∀ i, (s.entry i).state ≠ .retiring → t.entry i =
        { s.entry i with bindings := (t.entry i).bindings, inFlight := (t.entry i).inFlight }) ∧
      t.mgmt.arm = none ∧ t.mgmt.consumed = false ∧
      t.active = (match s.device with | .draining (.profile next) => next | _ => s.active) ∧ t.staged = s.staged ∧
      (∀ p, (t.link p).state =
        if (s.link p).state = .failed then .failed
        else if (s.port p).config.enabled = true then .training else .down) ∧
      t.memory = s.memory ∧ t.health = s.health

/-- HOLD_BREAK ends the ACTIVE hold that it names, with HOLD_BROKEN for its owner, and rejects any other id with NO_HOLD;
INJECT_ECC sets the arm and clears the consumed indication, or leaves both where it is rejected (R134, R138, R175, R179). -/
def Obligations.HoldBreakAndInjectEcc : Prop :=
  ∀ (s : State) (command : QueuedCommand),
    (s.Executes command .holdBreak → ∀ h : HoldId, h.val = (command.block.getD 4 0).toNat →
      (s.hold h = none → exec .holdBreak s = .next (s.popped.concluded command (.rejected .noHold))) ∧
      (s.hold h ≠ none → ∃ t : State, exec .holdBreak s = .next (t.concluded command (.ok [])) ∧ t.hold h = none ∧
        (∀ hold, s.hold h = some hold →
          Raised s t fun p => if hold.owner = p then [.holdBroken h .management] else []) ∧
        (∀ g, g ≠ h → t.hold g = s.hold g) ∧ (∀ b, ∀ entry ∈ (t.bank b).queue, entry.parkedOn ≠ some h) ∧
        t.apertures = s.apertures ∧ t.memory = s.memory ∧ t.health = s.health)) ∧
    (s.Executes command .holdBreak → 15 < (command.block.getD 4 0).toNat →
      exec .holdBreak s = .next (s.popped.concluded command (.rejected .noHold))) ∧
    (s.Executes command .injectEcc →
      let unit := numberAt command.block 4 4
      let kind := (command.block.getD 8 0).toNat
      let set (arm : Option (UnitAddr × InjectKind)) : Host.Outcome State Fault Refusal :=
        .next ((s.popped.modMgmt fun m => { m with arm := arm, consumed := false }).concluded command (.ok []))
      if kind = 0 then exec .injectEcc s = set none
      else if 2 < kind ∨ 0x3FFFFF < unit then
        exec .injectEcc s = .next (s.popped.concluded command (.rejected .badDescriptor))
      else exec .injectEcc s =
        set (some (BitVec.ofNat 22 unit, if kind = 1 then .correctable else .uncorrectable)))

/-! ### Whole-machine rules -/

/-- After RESET_N every invariant of the statements below holds (R6, R25, R81, R85, R127, R158, R164). That the memory of
State.reset lists nothing and that no failed lookup waits there are the model's choices (notes/assumptions/1.md and 12.md). -/
def Obligations.ResetMeetsInvariants : Prop :=
  State.reset.MemoryWf ∧ State.reset.BindingsCounted ∧ State.reset.LinksDown ∧ State.reset.AttentionKept ∧
    State.reset.HoldsApart ∧ State.reset.ParitySettled ∧ State.reset.SpiSlotKept

/-- Every step keeps memory and unit health in their canonical form, which is the model's own representation
(notes/assumptions/1.md), and leaves no failed lookup waiting for the end of its event (R85; that the model keeps such lookups
in a list which is empty between commands is notes/assumptions/12.md). -/
def Obligations.StepKeepsMemoryAndParitySettled : Prop :=
  (∀ s t : State, s.MemoryWf → step s = .next t → t.MemoryWf) ∧
  (∀ s t : State, s.ParitySettled → step s = .next t → t.ParitySettled)

/-- Every step keeps every binding count equal to the number of BOUND and STALE slots that name its index (R81). -/
def Obligations.StepKeepsBindingCounts : Prop := ∀ s t : State, s.BindingsCounted → step s = .next t → t.BindingsCounted

/-- Every step keeps every link DOWN while the device is in a state in which no link runs (R6, R17, R29). -/
def Obligations.StepKeepsLinksDown : Prop := ∀ s t : State, s.LinksDown → step s = .next t → t.LinksDown

/-- Every step keeps the attention flag equal to the attention condition (R158). -/
def Obligations.StepKeepsAttention : Prop := ∀ s t : State, s.AttentionKept → step s = .next t → t.AttentionKept

/-- Every step keeps the ranges of ACTIVE holds apart, and no port owns more than four (R127, R130). -/
def Obligations.StepKeepsHoldsApart : Prop := ∀ s t : State, s.HoldsApart → step s = .next t → t.HoldsApart

/-- HALTED is left by RESET_N alone (R18, R19, R86). -/
def Obligations.HaltedIsLeftByResetOnly : Prop :=
  ∀ (i : Instr) (s t : State), i ≠ .resetNAssert → s.device = .halted → exec i s = .next t → t.device = .halted

/-- No command but the completion of a WRITE, a WRITE_MASKED, an ATOMIC or a clearing service changes a byte of memory (R113);
FENCE_ANSWER may be such a completion. -/
def Obligations.OnlyServicesChangeMemory : Prop :=
  ∀ (i : Instr) (s t : State), (∀ b, i ≠ .writeService b ∧ i ≠ .writeMaskedService b ∧ i ≠ .atomicService b ∧
    i ≠ .clearingService b) → (∀ p, i ≠ .fenceAnswer p) → exec i s = .next t → ∀ address, t.byteOf address = s.byteOf address
end

