-- ==== Sys2Proof/Laws/State.lean ====
section
/-! SUPPORT. One lemma per field per update of State, each true by unfolding the update, so that no proof unfolds a record
update; and what a port, a link, a bank, an entry or a hold reads after an update. -/

namespace Sys2Proof.Machine

/-! ### modPort -/

@[simp] theorem State.modPort_device (s : State) (p : PortId) (f : Port → Port) : (s.modPort p f).device = s.device := rfl
@[simp] theorem State.modPort_staged (s : State) (p : PortId) (f : Port → Port) : (s.modPort p f).staged = s.staged := rfl
@[simp] theorem State.modPort_active (s : State) (p : PortId) (f : Port → Port) : (s.modPort p f).active = s.active := rfl
@[simp] theorem State.modPort_tickCount (s : State) (p : PortId) (f : Port → Port) : (s.modPort p f).tickCount = s.tickCount := rfl
@[simp] theorem State.modPort_apertures (s : State) (p : PortId) (f : Port → Port) : (s.modPort p f).apertures = s.apertures := rfl
@[simp] theorem State.modPort_holds (s : State) (p : PortId) (f : Port → Port) : (s.modPort p f).holds = s.holds := rfl
@[simp] theorem State.modPort_banks (s : State) (p : PortId) (f : Port → Port) : (s.modPort p f).banks = s.banks := rfl
@[simp] theorem State.modPort_faults (s : State) (p : PortId) (f : Port → Port) : (s.modPort p f).faults = s.faults := rfl
@[simp] theorem State.modPort_mgmt (s : State) (p : PortId) (f : Port → Port) : (s.modPort p f).mgmt = s.mgmt := rfl
@[simp] theorem State.modPort_memory (s : State) (p : PortId) (f : Port → Port) : (s.modPort p f).memory = s.memory := rfl
@[simp] theorem State.modPort_health (s : State) (p : PortId) (f : Port → Port) : (s.modPort p f).health = s.health := rfl
@[simp] theorem State.modPort_ticksDue (s : State) (p : PortId) (f : Port → Port) : (s.modPort p f).ticksDue = s.ticksDue := rfl
@[simp] theorem State.modPort_tickDecisions (s : State) (p : PortId) (f : Port → Port) : (s.modPort p f).tickDecisions = s.tickDecisions := rfl
@[simp] theorem State.modPort_parityPending (s : State) (p : PortId) (f : Port → Port) : (s.modPort p f).parityPending = s.parityPending := rfl
@[simp] theorem State.modPort_order (s : State) (p : PortId) (f : Port → Port) : (s.modPort p f).order = s.order := rfl
@[simp] theorem State.modPort_pending (s : State) (p : PortId) (f : Port → Port) : (s.modPort p f).pending = s.pending := rfl

/-! ### modLink -/

@[simp] theorem State.modLink_device (s : State) (p : PortId) (f : Link → Link) : (s.modLink p f).device = s.device := rfl
@[simp] theorem State.modLink_staged (s : State) (p : PortId) (f : Link → Link) : (s.modLink p f).staged = s.staged := rfl
@[simp] theorem State.modLink_active (s : State) (p : PortId) (f : Link → Link) : (s.modLink p f).active = s.active := rfl
@[simp] theorem State.modLink_tickCount (s : State) (p : PortId) (f : Link → Link) : (s.modLink p f).tickCount = s.tickCount := rfl
@[simp] theorem State.modLink_apertures (s : State) (p : PortId) (f : Link → Link) : (s.modLink p f).apertures = s.apertures := rfl
@[simp] theorem State.modLink_holds (s : State) (p : PortId) (f : Link → Link) : (s.modLink p f).holds = s.holds := rfl
@[simp] theorem State.modLink_banks (s : State) (p : PortId) (f : Link → Link) : (s.modLink p f).banks = s.banks := rfl
@[simp] theorem State.modLink_faults (s : State) (p : PortId) (f : Link → Link) : (s.modLink p f).faults = s.faults := rfl
@[simp] theorem State.modLink_mgmt (s : State) (p : PortId) (f : Link → Link) : (s.modLink p f).mgmt = s.mgmt := rfl
@[simp] theorem State.modLink_memory (s : State) (p : PortId) (f : Link → Link) : (s.modLink p f).memory = s.memory := rfl
@[simp] theorem State.modLink_health (s : State) (p : PortId) (f : Link → Link) : (s.modLink p f).health = s.health := rfl
@[simp] theorem State.modLink_tickDecisions (s : State) (p : PortId) (f : Link → Link) : (s.modLink p f).tickDecisions = s.tickDecisions := rfl
@[simp] theorem State.modLink_parityPending (s : State) (p : PortId) (f : Link → Link) : (s.modLink p f).parityPending = s.parityPending := rfl
@[simp] theorem State.modLink_order (s : State) (p : PortId) (f : Link → Link) : (s.modLink p f).order = s.order := rfl
@[simp] theorem State.modLink_pending (s : State) (p : PortId) (f : Link → Link) : (s.modLink p f).pending = s.pending := rfl

/-! ### modBank -/

@[simp] theorem State.modBank_device (s : State) (b : BankId) (f : Bank → Bank) : (s.modBank b f).device = s.device := rfl
@[simp] theorem State.modBank_staged (s : State) (b : BankId) (f : Bank → Bank) : (s.modBank b f).staged = s.staged := rfl
@[simp] theorem State.modBank_active (s : State) (b : BankId) (f : Bank → Bank) : (s.modBank b f).active = s.active := rfl
@[simp] theorem State.modBank_tickCount (s : State) (b : BankId) (f : Bank → Bank) : (s.modBank b f).tickCount = s.tickCount := rfl
@[simp] theorem State.modBank_ports (s : State) (b : BankId) (f : Bank → Bank) : (s.modBank b f).ports = s.ports := rfl
@[simp] theorem State.modBank_apertures (s : State) (b : BankId) (f : Bank → Bank) : (s.modBank b f).apertures = s.apertures := rfl
@[simp] theorem State.modBank_holds (s : State) (b : BankId) (f : Bank → Bank) : (s.modBank b f).holds = s.holds := rfl
@[simp] theorem State.modBank_faults (s : State) (b : BankId) (f : Bank → Bank) : (s.modBank b f).faults = s.faults := rfl
@[simp] theorem State.modBank_mgmt (s : State) (b : BankId) (f : Bank → Bank) : (s.modBank b f).mgmt = s.mgmt := rfl
@[simp] theorem State.modBank_memory (s : State) (b : BankId) (f : Bank → Bank) : (s.modBank b f).memory = s.memory := rfl
@[simp] theorem State.modBank_health (s : State) (b : BankId) (f : Bank → Bank) : (s.modBank b f).health = s.health := rfl
@[simp] theorem State.modBank_ticksDue (s : State) (b : BankId) (f : Bank → Bank) : (s.modBank b f).ticksDue = s.ticksDue := rfl
@[simp] theorem State.modBank_tickDecisions (s : State) (b : BankId) (f : Bank → Bank) : (s.modBank b f).tickDecisions = s.tickDecisions := rfl
@[simp] theorem State.modBank_parityPending (s : State) (b : BankId) (f : Bank → Bank) : (s.modBank b f).parityPending = s.parityPending := rfl
@[simp] theorem State.modBank_order (s : State) (b : BankId) (f : Bank → Bank) : (s.modBank b f).order = s.order := rfl
@[simp] theorem State.modBank_pending (s : State) (b : BankId) (f : Bank → Bank) : (s.modBank b f).pending = s.pending := rfl

/-! ### mapBanks -/

@[simp] theorem State.mapBanks_device (s : State) (f : Bank → Bank) : (s.mapBanks f).device = s.device := rfl
@[simp] theorem State.mapBanks_staged (s : State) (f : Bank → Bank) : (s.mapBanks f).staged = s.staged := rfl
@[simp] theorem State.mapBanks_active (s : State) (f : Bank → Bank) : (s.mapBanks f).active = s.active := rfl
@[simp] theorem State.mapBanks_tickCount (s : State) (f : Bank → Bank) : (s.mapBanks f).tickCount = s.tickCount := rfl
@[simp] theorem State.mapBanks_ports (s : State) (f : Bank → Bank) : (s.mapBanks f).ports = s.ports := rfl
@[simp] theorem State.mapBanks_apertures (s : State) (f : Bank → Bank) : (s.mapBanks f).apertures = s.apertures := rfl
@[simp] theorem State.mapBanks_holds (s : State) (f : Bank → Bank) : (s.mapBanks f).holds = s.holds := rfl
@[simp] theorem State.mapBanks_faults (s : State) (f : Bank → Bank) : (s.mapBanks f).faults = s.faults := rfl
@[simp] theorem State.mapBanks_mgmt (s : State) (f : Bank → Bank) : (s.mapBanks f).mgmt = s.mgmt := rfl
@[simp] theorem State.mapBanks_memory (s : State) (f : Bank → Bank) : (s.mapBanks f).memory = s.memory := rfl
@[simp] theorem State.mapBanks_health (s : State) (f : Bank → Bank) : (s.mapBanks f).health = s.health := rfl
@[simp] theorem State.mapBanks_ticksDue (s : State) (f : Bank → Bank) : (s.mapBanks f).ticksDue = s.ticksDue := rfl
@[simp] theorem State.mapBanks_tickDecisions (s : State) (f : Bank → Bank) : (s.mapBanks f).tickDecisions = s.tickDecisions := rfl
@[simp] theorem State.mapBanks_parityPending (s : State) (f : Bank → Bank) : (s.mapBanks f).parityPending = s.parityPending := rfl
@[simp] theorem State.mapBanks_order (s : State) (f : Bank → Bank) : (s.mapBanks f).order = s.order := rfl
@[simp] theorem State.mapBanks_pending (s : State) (f : Bank → Bank) : (s.mapBanks f).pending = s.pending := rfl

/-! ### modEntry -/

@[simp] theorem State.modEntry_device (s : State) (i : ApIndex) (f : ApEntry → ApEntry) : (s.modEntry i f).device = s.device := rfl
@[simp] theorem State.modEntry_staged (s : State) (i : ApIndex) (f : ApEntry → ApEntry) : (s.modEntry i f).staged = s.staged := rfl
@[simp] theorem State.modEntry_active (s : State) (i : ApIndex) (f : ApEntry → ApEntry) : (s.modEntry i f).active = s.active := rfl
@[simp] theorem State.modEntry_tickCount (s : State) (i : ApIndex) (f : ApEntry → ApEntry) : (s.modEntry i f).tickCount = s.tickCount := rfl
@[simp] theorem State.modEntry_ports (s : State) (i : ApIndex) (f : ApEntry → ApEntry) : (s.modEntry i f).ports = s.ports := rfl
@[simp] theorem State.modEntry_holds (s : State) (i : ApIndex) (f : ApEntry → ApEntry) : (s.modEntry i f).holds = s.holds := rfl
@[simp] theorem State.modEntry_banks (s : State) (i : ApIndex) (f : ApEntry → ApEntry) : (s.modEntry i f).banks = s.banks := rfl
@[simp] theorem State.modEntry_faults (s : State) (i : ApIndex) (f : ApEntry → ApEntry) : (s.modEntry i f).faults = s.faults := rfl
@[simp] theorem State.modEntry_mgmt (s : State) (i : ApIndex) (f : ApEntry → ApEntry) : (s.modEntry i f).mgmt = s.mgmt := rfl
@[simp] theorem State.modEntry_memory (s : State) (i : ApIndex) (f : ApEntry → ApEntry) : (s.modEntry i f).memory = s.memory := rfl
@[simp] theorem State.modEntry_health (s : State) (i : ApIndex) (f : ApEntry → ApEntry) : (s.modEntry i f).health = s.health := rfl
@[simp] theorem State.modEntry_ticksDue (s : State) (i : ApIndex) (f : ApEntry → ApEntry) : (s.modEntry i f).ticksDue = s.ticksDue := rfl
@[simp] theorem State.modEntry_tickDecisions (s : State) (i : ApIndex) (f : ApEntry → ApEntry) : (s.modEntry i f).tickDecisions = s.tickDecisions := rfl
@[simp] theorem State.modEntry_parityPending (s : State) (i : ApIndex) (f : ApEntry → ApEntry) : (s.modEntry i f).parityPending = s.parityPending := rfl
@[simp] theorem State.modEntry_order (s : State) (i : ApIndex) (f : ApEntry → ApEntry) : (s.modEntry i f).order = s.order := rfl
@[simp] theorem State.modEntry_pending (s : State) (i : ApIndex) (f : ApEntry → ApEntry) : (s.modEntry i f).pending = s.pending := rfl

/-! ### setHold -/

@[simp] theorem State.setHold_device (s : State) (h : HoldId) (entry : Option Hold) : (s.setHold h entry).device = s.device := rfl
@[simp] theorem State.setHold_staged (s : State) (h : HoldId) (entry : Option Hold) : (s.setHold h entry).staged = s.staged := rfl
@[simp] theorem State.setHold_active (s : State) (h : HoldId) (entry : Option Hold) : (s.setHold h entry).active = s.active := rfl
@[simp] theorem State.setHold_tickCount (s : State) (h : HoldId) (entry : Option Hold) : (s.setHold h entry).tickCount = s.tickCount := rfl
@[simp] theorem State.setHold_ports (s : State) (h : HoldId) (entry : Option Hold) : (s.setHold h entry).ports = s.ports := rfl
@[simp] theorem State.setHold_apertures (s : State) (h : HoldId) (entry : Option Hold) : (s.setHold h entry).apertures = s.apertures := rfl
@[simp] theorem State.setHold_banks (s : State) (h : HoldId) (entry : Option Hold) : (s.setHold h entry).banks = s.banks := rfl
@[simp] theorem State.setHold_faults (s : State) (h : HoldId) (entry : Option Hold) : (s.setHold h entry).faults = s.faults := rfl
@[simp] theorem State.setHold_mgmt (s : State) (h : HoldId) (entry : Option Hold) : (s.setHold h entry).mgmt = s.mgmt := rfl
@[simp] theorem State.setHold_memory (s : State) (h : HoldId) (entry : Option Hold) : (s.setHold h entry).memory = s.memory := rfl
@[simp] theorem State.setHold_health (s : State) (h : HoldId) (entry : Option Hold) : (s.setHold h entry).health = s.health := rfl
@[simp] theorem State.setHold_ticksDue (s : State) (h : HoldId) (entry : Option Hold) : (s.setHold h entry).ticksDue = s.ticksDue := rfl
@[simp] theorem State.setHold_tickDecisions (s : State) (h : HoldId) (entry : Option Hold) : (s.setHold h entry).tickDecisions = s.tickDecisions := rfl
@[simp] theorem State.setHold_parityPending (s : State) (h : HoldId) (entry : Option Hold) : (s.setHold h entry).parityPending = s.parityPending := rfl
@[simp] theorem State.setHold_order (s : State) (h : HoldId) (entry : Option Hold) : (s.setHold h entry).order = s.order := rfl
@[simp] theorem State.setHold_pending (s : State) (h : HoldId) (entry : Option Hold) : (s.setHold h entry).pending = s.pending := rfl

/-! ### setTag -/

@[simp] theorem State.setTag_device (s : State) (p : PortId) (t : Tag) (holder : Option Holder) : (s.setTag p t holder).device = s.device := rfl
@[simp] theorem State.setTag_staged (s : State) (p : PortId) (t : Tag) (holder : Option Holder) : (s.setTag p t holder).staged = s.staged := rfl
@[simp] theorem State.setTag_active (s : State) (p : PortId) (t : Tag) (holder : Option Holder) : (s.setTag p t holder).active = s.active := rfl
@[simp] theorem State.setTag_tickCount (s : State) (p : PortId) (t : Tag) (holder : Option Holder) : (s.setTag p t holder).tickCount = s.tickCount := rfl
@[simp] theorem State.setTag_apertures (s : State) (p : PortId) (t : Tag) (holder : Option Holder) : (s.setTag p t holder).apertures = s.apertures := rfl
@[simp] theorem State.setTag_holds (s : State) (p : PortId) (t : Tag) (holder : Option Holder) : (s.setTag p t holder).holds = s.holds := rfl
@[simp] theorem State.setTag_banks (s : State) (p : PortId) (t : Tag) (holder : Option Holder) : (s.setTag p t holder).banks = s.banks := rfl
@[simp] theorem State.setTag_faults (s : State) (p : PortId) (t : Tag) (holder : Option Holder) : (s.setTag p t holder).faults = s.faults := rfl
@[simp] theorem State.setTag_mgmt (s : State) (p : PortId) (t : Tag) (holder : Option Holder) : (s.setTag p t holder).mgmt = s.mgmt := rfl
@[simp] theorem State.setTag_memory (s : State) (p : PortId) (t : Tag) (holder : Option Holder) : (s.setTag p t holder).memory = s.memory := rfl
@[simp] theorem State.setTag_health (s : State) (p : PortId) (t : Tag) (holder : Option Holder) : (s.setTag p t holder).health = s.health := rfl
@[simp] theorem State.setTag_ticksDue (s : State) (p : PortId) (t : Tag) (holder : Option Holder) : (s.setTag p t holder).ticksDue = s.ticksDue := rfl
@[simp] theorem State.setTag_tickDecisions (s : State) (p : PortId) (t : Tag) (holder : Option Holder) : (s.setTag p t holder).tickDecisions = s.tickDecisions := rfl
@[simp] theorem State.setTag_parityPending (s : State) (p : PortId) (t : Tag) (holder : Option Holder) : (s.setTag p t holder).parityPending = s.parityPending := rfl
@[simp] theorem State.setTag_order (s : State) (p : PortId) (t : Tag) (holder : Option Holder) : (s.setTag p t holder).order = s.order := rfl
@[simp] theorem State.setTag_pending (s : State) (p : PortId) (t : Tag) (holder : Option Holder) : (s.setTag p t holder).pending = s.pending := rfl

/-! ### modFaults -/

@[simp] theorem State.modFaults_device (s : State) (f : FaultUnit → FaultUnit) : (s.modFaults f).device = s.device := rfl
@[simp] theorem State.modFaults_staged (s : State) (f : FaultUnit → FaultUnit) : (s.modFaults f).staged = s.staged := rfl
@[simp] theorem State.modFaults_active (s : State) (f : FaultUnit → FaultUnit) : (s.modFaults f).active = s.active := rfl
@[simp] theorem State.modFaults_tickCount (s : State) (f : FaultUnit → FaultUnit) : (s.modFaults f).tickCount = s.tickCount := rfl
@[simp] theorem State.modFaults_ports (s : State) (f : FaultUnit → FaultUnit) : (s.modFaults f).ports = s.ports := rfl
@[simp] theorem State.modFaults_apertures (s : State) (f : FaultUnit → FaultUnit) : (s.modFaults f).apertures = s.apertures := rfl
@[simp] theorem State.modFaults_holds (s : State) (f : FaultUnit → FaultUnit) : (s.modFaults f).holds = s.holds := rfl
@[simp] theorem State.modFaults_banks (s : State) (f : FaultUnit → FaultUnit) : (s.modFaults f).banks = s.banks := rfl
@[simp] theorem State.modFaults_mgmt (s : State) (f : FaultUnit → FaultUnit) : (s.modFaults f).mgmt = s.mgmt := rfl
@[simp] theorem State.modFaults_memory (s : State) (f : FaultUnit → FaultUnit) : (s.modFaults f).memory = s.memory := rfl
@[simp] theorem State.modFaults_health (s : State) (f : FaultUnit → FaultUnit) : (s.modFaults f).health = s.health := rfl
@[simp] theorem State.modFaults_ticksDue (s : State) (f : FaultUnit → FaultUnit) : (s.modFaults f).ticksDue = s.ticksDue := rfl
@[simp] theorem State.modFaults_tickDecisions (s : State) (f : FaultUnit → FaultUnit) : (s.modFaults f).tickDecisions = s.tickDecisions := rfl
@[simp] theorem State.modFaults_parityPending (s : State) (f : FaultUnit → FaultUnit) : (s.modFaults f).parityPending = s.parityPending := rfl
@[simp] theorem State.modFaults_order (s : State) (f : FaultUnit → FaultUnit) : (s.modFaults f).order = s.order := rfl
@[simp] theorem State.modFaults_pending (s : State) (f : FaultUnit → FaultUnit) : (s.modFaults f).pending = s.pending := rfl

/-! ### modMgmt -/

@[simp] theorem State.modMgmt_device (s : State) (f : Mgmt → Mgmt) : (s.modMgmt f).device = s.device := rfl
@[simp] theorem State.modMgmt_staged (s : State) (f : Mgmt → Mgmt) : (s.modMgmt f).staged = s.staged := rfl
@[simp] theorem State.modMgmt_active (s : State) (f : Mgmt → Mgmt) : (s.modMgmt f).active = s.active := rfl
@[simp] theorem State.modMgmt_tickCount (s : State) (f : Mgmt → Mgmt) : (s.modMgmt f).tickCount = s.tickCount := rfl
@[simp] theorem State.modMgmt_ports (s : State) (f : Mgmt → Mgmt) : (s.modMgmt f).ports = s.ports := rfl
@[simp] theorem State.modMgmt_apertures (s : State) (f : Mgmt → Mgmt) : (s.modMgmt f).apertures = s.apertures := rfl
@[simp] theorem State.modMgmt_holds (s : State) (f : Mgmt → Mgmt) : (s.modMgmt f).holds = s.holds := rfl
@[simp] theorem State.modMgmt_banks (s : State) (f : Mgmt → Mgmt) : (s.modMgmt f).banks = s.banks := rfl
@[simp] theorem State.modMgmt_faults (s : State) (f : Mgmt → Mgmt) : (s.modMgmt f).faults = s.faults := rfl
@[simp] theorem State.modMgmt_memory (s : State) (f : Mgmt → Mgmt) : (s.modMgmt f).memory = s.memory := rfl
@[simp] theorem State.modMgmt_health (s : State) (f : Mgmt → Mgmt) : (s.modMgmt f).health = s.health := rfl
@[simp] theorem State.modMgmt_ticksDue (s : State) (f : Mgmt → Mgmt) : (s.modMgmt f).ticksDue = s.ticksDue := rfl
@[simp] theorem State.modMgmt_tickDecisions (s : State) (f : Mgmt → Mgmt) : (s.modMgmt f).tickDecisions = s.tickDecisions := rfl
@[simp] theorem State.modMgmt_parityPending (s : State) (f : Mgmt → Mgmt) : (s.modMgmt f).parityPending = s.parityPending := rfl
@[simp] theorem State.modMgmt_order (s : State) (f : Mgmt → Mgmt) : (s.modMgmt f).order = s.order := rfl
@[simp] theorem State.modMgmt_pending (s : State) (f : Mgmt → Mgmt) : (s.modMgmt f).pending = s.pending := rfl

/-! ### setDevice -/

@[simp] theorem State.setDevice_staged (s : State) (d : DevState) : (s.setDevice d).staged = s.staged := rfl
@[simp] theorem State.setDevice_active (s : State) (d : DevState) : (s.setDevice d).active = s.active := rfl
@[simp] theorem State.setDevice_tickCount (s : State) (d : DevState) : (s.setDevice d).tickCount = s.tickCount := rfl
@[simp] theorem State.setDevice_ports (s : State) (d : DevState) : (s.setDevice d).ports = s.ports := rfl
@[simp] theorem State.setDevice_apertures (s : State) (d : DevState) : (s.setDevice d).apertures = s.apertures := rfl
@[simp] theorem State.setDevice_holds (s : State) (d : DevState) : (s.setDevice d).holds = s.holds := rfl
@[simp] theorem State.setDevice_banks (s : State) (d : DevState) : (s.setDevice d).banks = s.banks := rfl
@[simp] theorem State.setDevice_faults (s : State) (d : DevState) : (s.setDevice d).faults = s.faults := rfl
@[simp] theorem State.setDevice_mgmt (s : State) (d : DevState) : (s.setDevice d).mgmt = s.mgmt := rfl
@[simp] theorem State.setDevice_memory (s : State) (d : DevState) : (s.setDevice d).memory = s.memory := rfl
@[simp] theorem State.setDevice_health (s : State) (d : DevState) : (s.setDevice d).health = s.health := rfl
@[simp] theorem State.setDevice_ticksDue (s : State) (d : DevState) : (s.setDevice d).ticksDue = s.ticksDue := rfl
@[simp] theorem State.setDevice_tickDecisions (s : State) (d : DevState) : (s.setDevice d).tickDecisions = s.tickDecisions := rfl
@[simp] theorem State.setDevice_parityPending (s : State) (d : DevState) : (s.setDevice d).parityPending = s.parityPending := rfl
@[simp] theorem State.setDevice_order (s : State) (d : DevState) : (s.setDevice d).order = s.order := rfl
@[simp] theorem State.setDevice_pending (s : State) (d : DevState) : (s.setDevice d).pending = s.pending := rfl

/-! ### nextPlace -/

@[simp] theorem State.nextPlace_device (s : State) : (s.nextPlace).device = s.device := rfl
@[simp] theorem State.nextPlace_staged (s : State) : (s.nextPlace).staged = s.staged := rfl
@[simp] theorem State.nextPlace_active (s : State) : (s.nextPlace).active = s.active := rfl
@[simp] theorem State.nextPlace_tickCount (s : State) : (s.nextPlace).tickCount = s.tickCount := rfl
@[simp] theorem State.nextPlace_ports (s : State) : (s.nextPlace).ports = s.ports := rfl
@[simp] theorem State.nextPlace_apertures (s : State) : (s.nextPlace).apertures = s.apertures := rfl
@[simp] theorem State.nextPlace_holds (s : State) : (s.nextPlace).holds = s.holds := rfl
@[simp] theorem State.nextPlace_banks (s : State) : (s.nextPlace).banks = s.banks := rfl
@[simp] theorem State.nextPlace_faults (s : State) : (s.nextPlace).faults = s.faults := rfl
@[simp] theorem State.nextPlace_mgmt (s : State) : (s.nextPlace).mgmt = s.mgmt := rfl
@[simp] theorem State.nextPlace_memory (s : State) : (s.nextPlace).memory = s.memory := rfl
@[simp] theorem State.nextPlace_health (s : State) : (s.nextPlace).health = s.health := rfl
@[simp] theorem State.nextPlace_ticksDue (s : State) : (s.nextPlace).ticksDue = s.ticksDue := rfl
@[simp] theorem State.nextPlace_tickDecisions (s : State) : (s.nextPlace).tickDecisions = s.tickDecisions := rfl
@[simp] theorem State.nextPlace_parityPending (s : State) : (s.nextPlace).parityPending = s.parityPending := rfl
@[simp] theorem State.nextPlace_pending (s : State) : (s.nextPlace).pending = s.pending := rfl

/-! ### popHead -/

@[simp] theorem State.popHead_device (s : State) (p : PortId) : (s.popHead p).device = s.device := rfl
@[simp] theorem State.popHead_staged (s : State) (p : PortId) : (s.popHead p).staged = s.staged := rfl
@[simp] theorem State.popHead_active (s : State) (p : PortId) : (s.popHead p).active = s.active := rfl
@[simp] theorem State.popHead_tickCount (s : State) (p : PortId) : (s.popHead p).tickCount = s.tickCount := rfl
@[simp] theorem State.popHead_apertures (s : State) (p : PortId) : (s.popHead p).apertures = s.apertures := rfl
@[simp] theorem State.popHead_holds (s : State) (p : PortId) : (s.popHead p).holds = s.holds := rfl
@[simp] theorem State.popHead_banks (s : State) (p : PortId) : (s.popHead p).banks = s.banks := rfl
@[simp] theorem State.popHead_faults (s : State) (p : PortId) : (s.popHead p).faults = s.faults := rfl
@[simp] theorem State.popHead_mgmt (s : State) (p : PortId) : (s.popHead p).mgmt = s.mgmt := rfl
@[simp] theorem State.popHead_memory (s : State) (p : PortId) : (s.popHead p).memory = s.memory := rfl
@[simp] theorem State.popHead_health (s : State) (p : PortId) : (s.popHead p).health = s.health := rfl
@[simp] theorem State.popHead_ticksDue (s : State) (p : PortId) : (s.popHead p).ticksDue = s.ticksDue := rfl
@[simp] theorem State.popHead_tickDecisions (s : State) (p : PortId) : (s.popHead p).tickDecisions = s.tickDecisions := rfl
@[simp] theorem State.popHead_parityPending (s : State) (p : PortId) : (s.popHead p).parityPending = s.parityPending := rfl
@[simp] theorem State.popHead_order (s : State) (p : PortId) : (s.popHead p).order = s.order := rfl
@[simp] theorem State.popHead_pending (s : State) (p : PortId) : (s.popHead p).pending = s.pending := rfl

/-! ### promptAttempts -/

@[simp] theorem State.promptAttempts_device (s : State) : (s.promptAttempts).device = s.device := rfl
@[simp] theorem State.promptAttempts_staged (s : State) : (s.promptAttempts).staged = s.staged := rfl
@[simp] theorem State.promptAttempts_active (s : State) : (s.promptAttempts).active = s.active := rfl
@[simp] theorem State.promptAttempts_tickCount (s : State) : (s.promptAttempts).tickCount = s.tickCount := rfl
@[simp] theorem State.promptAttempts_apertures (s : State) : (s.promptAttempts).apertures = s.apertures := rfl
@[simp] theorem State.promptAttempts_holds (s : State) : (s.promptAttempts).holds = s.holds := rfl
@[simp] theorem State.promptAttempts_banks (s : State) : (s.promptAttempts).banks = s.banks := rfl
@[simp] theorem State.promptAttempts_faults (s : State) : (s.promptAttempts).faults = s.faults := rfl
@[simp] theorem State.promptAttempts_mgmt (s : State) : (s.promptAttempts).mgmt = s.mgmt := rfl
@[simp] theorem State.promptAttempts_memory (s : State) : (s.promptAttempts).memory = s.memory := rfl
@[simp] theorem State.promptAttempts_health (s : State) : (s.promptAttempts).health = s.health := rfl
@[simp] theorem State.promptAttempts_ticksDue (s : State) : (s.promptAttempts).ticksDue = s.ticksDue := rfl
@[simp] theorem State.promptAttempts_tickDecisions (s : State) : (s.promptAttempts).tickDecisions = s.tickDecisions := rfl
@[simp] theorem State.promptAttempts_parityPending (s : State) : (s.promptAttempts).parityPending = s.parityPending := rfl
@[simp] theorem State.promptAttempts_order (s : State) : (s.promptAttempts).order = s.order := rfl
@[simp] theorem State.promptAttempts_pending (s : State) : (s.promptAttempts).pending = s.pending := rfl

/-! ### placeEvent -/

@[simp] theorem State.placeEvent_device (s : State) (p : PortId) (e : Event) : (s.placeEvent p e).device = s.device := rfl
@[simp] theorem State.placeEvent_staged (s : State) (p : PortId) (e : Event) : (s.placeEvent p e).staged = s.staged := rfl
@[simp] theorem State.placeEvent_active (s : State) (p : PortId) (e : Event) : (s.placeEvent p e).active = s.active := rfl
@[simp] theorem State.placeEvent_tickCount (s : State) (p : PortId) (e : Event) : (s.placeEvent p e).tickCount = s.tickCount := rfl
@[simp] theorem State.placeEvent_apertures (s : State) (p : PortId) (e : Event) : (s.placeEvent p e).apertures = s.apertures := rfl
@[simp] theorem State.placeEvent_holds (s : State) (p : PortId) (e : Event) : (s.placeEvent p e).holds = s.holds := rfl
@[simp] theorem State.placeEvent_banks (s : State) (p : PortId) (e : Event) : (s.placeEvent p e).banks = s.banks := rfl
@[simp] theorem State.placeEvent_faults (s : State) (p : PortId) (e : Event) : (s.placeEvent p e).faults = s.faults := rfl
@[simp] theorem State.placeEvent_mgmt (s : State) (p : PortId) (e : Event) : (s.placeEvent p e).mgmt = s.mgmt := rfl
@[simp] theorem State.placeEvent_memory (s : State) (p : PortId) (e : Event) : (s.placeEvent p e).memory = s.memory := rfl
@[simp] theorem State.placeEvent_health (s : State) (p : PortId) (e : Event) : (s.placeEvent p e).health = s.health := rfl
@[simp] theorem State.placeEvent_ticksDue (s : State) (p : PortId) (e : Event) : (s.placeEvent p e).ticksDue = s.ticksDue := rfl
@[simp] theorem State.placeEvent_tickDecisions (s : State) (p : PortId) (e : Event) : (s.placeEvent p e).tickDecisions = s.tickDecisions := rfl
@[simp] theorem State.placeEvent_parityPending (s : State) (p : PortId) (e : Event) : (s.placeEvent p e).parityPending = s.parityPending := rfl
@[simp] theorem State.placeEvent_pending (s : State) (p : PortId) (e : Event) : (s.placeEvent p e).pending = s.pending := rfl

/-! ### setHealth -/

@[simp] theorem State.setHealth_device (s : State) (u : UnitAddr) (h : Health) : (s.setHealth u h).device = s.device := rfl
@[simp] theorem State.setHealth_staged (s : State) (u : UnitAddr) (h : Health) : (s.setHealth u h).staged = s.staged := rfl
@[simp] theorem State.setHealth_active (s : State) (u : UnitAddr) (h : Health) : (s.setHealth u h).active = s.active := rfl
@[simp] theorem State.setHealth_tickCount (s : State) (u : UnitAddr) (h : Health) : (s.setHealth u h).tickCount = s.tickCount := rfl
@[simp] theorem State.setHealth_ports (s : State) (u : UnitAddr) (h : Health) : (s.setHealth u h).ports = s.ports := rfl
@[simp] theorem State.setHealth_apertures (s : State) (u : UnitAddr) (h : Health) : (s.setHealth u h).apertures = s.apertures := rfl
@[simp] theorem State.setHealth_holds (s : State) (u : UnitAddr) (h : Health) : (s.setHealth u h).holds = s.holds := rfl
@[simp] theorem State.setHealth_banks (s : State) (u : UnitAddr) (h : Health) : (s.setHealth u h).banks = s.banks := rfl
@[simp] theorem State.setHealth_faults (s : State) (u : UnitAddr) (h : Health) : (s.setHealth u h).faults = s.faults := rfl
@[simp] theorem State.setHealth_mgmt (s : State) (u : UnitAddr) (h : Health) : (s.setHealth u h).mgmt = s.mgmt := rfl
@[simp] theorem State.setHealth_memory (s : State) (u : UnitAddr) (h : Health) : (s.setHealth u h).memory = s.memory := rfl
@[simp] theorem State.setHealth_ticksDue (s : State) (u : UnitAddr) (h : Health) : (s.setHealth u h).ticksDue = s.ticksDue := rfl
@[simp] theorem State.setHealth_tickDecisions (s : State) (u : UnitAddr) (h : Health) : (s.setHealth u h).tickDecisions = s.tickDecisions := rfl
@[simp] theorem State.setHealth_parityPending (s : State) (u : UnitAddr) (h : Health) : (s.setHealth u h).parityPending = s.parityPending := rfl
@[simp] theorem State.setHealth_order (s : State) (u : UnitAddr) (h : Health) : (s.setHealth u h).order = s.order := rfl
@[simp] theorem State.setHealth_pending (s : State) (u : UnitAddr) (h : Health) : (s.setHealth u h).pending = s.pending := rfl

/-! ### setData -/

@[simp] theorem State.setData_device (s : State) (u : UnitAddr) (d : List Byte) : (s.setData u d).device = s.device := rfl
@[simp] theorem State.setData_staged (s : State) (u : UnitAddr) (d : List Byte) : (s.setData u d).staged = s.staged := rfl
@[simp] theorem State.setData_active (s : State) (u : UnitAddr) (d : List Byte) : (s.setData u d).active = s.active := rfl
@[simp] theorem State.setData_tickCount (s : State) (u : UnitAddr) (d : List Byte) : (s.setData u d).tickCount = s.tickCount := rfl
@[simp] theorem State.setData_ports (s : State) (u : UnitAddr) (d : List Byte) : (s.setData u d).ports = s.ports := rfl
@[simp] theorem State.setData_apertures (s : State) (u : UnitAddr) (d : List Byte) : (s.setData u d).apertures = s.apertures := rfl
@[simp] theorem State.setData_holds (s : State) (u : UnitAddr) (d : List Byte) : (s.setData u d).holds = s.holds := rfl
@[simp] theorem State.setData_banks (s : State) (u : UnitAddr) (d : List Byte) : (s.setData u d).banks = s.banks := rfl
@[simp] theorem State.setData_faults (s : State) (u : UnitAddr) (d : List Byte) : (s.setData u d).faults = s.faults := rfl
@[simp] theorem State.setData_mgmt (s : State) (u : UnitAddr) (d : List Byte) : (s.setData u d).mgmt = s.mgmt := rfl
@[simp] theorem State.setData_health (s : State) (u : UnitAddr) (d : List Byte) : (s.setData u d).health = s.health := rfl
@[simp] theorem State.setData_ticksDue (s : State) (u : UnitAddr) (d : List Byte) : (s.setData u d).ticksDue = s.ticksDue := rfl
@[simp] theorem State.setData_tickDecisions (s : State) (u : UnitAddr) (d : List Byte) : (s.setData u d).tickDecisions = s.tickDecisions := rfl
@[simp] theorem State.setData_parityPending (s : State) (u : UnitAddr) (d : List Byte) : (s.setData u d).parityPending = s.parityPending := rfl
@[simp] theorem State.setData_order (s : State) (u : UnitAddr) (d : List Byte) : (s.setData u d).order = s.order := rfl
@[simp] theorem State.setData_pending (s : State) (u : UnitAddr) (d : List Byte) : (s.setData u d).pending = s.pending := rfl

/-! ### The lists of the fixed sets -/

@[simp] theorem mem_allPorts : ∀ p : PortId, p ∈ allPorts := by decide
@[simp] theorem mem_allBanks : ∀ b : BankId, b ∈ allBanks := by decide
@[simp] theorem mem_allSlots : ∀ k : SlotId, k ∈ allSlots := by decide
@[simp] theorem mem_allHolds (h : HoldId) : h ∈ allHolds := List.mem_finRange h

/-! ### What the updates set -/

@[simp] theorem State.setDevice_device (s : State) (d : DevState) : (s.setDevice d).device = d := rfl
@[simp] theorem State.modFaults_faults (s : State) (f : FaultUnit → FaultUnit) : (s.modFaults f).faults = f s.faults := rfl
@[simp] theorem State.modMgmt_mgmt (s : State) (f : Mgmt → Mgmt) : (s.modMgmt f).mgmt = f s.mgmt := rfl
@[simp] theorem State.nextPlace_order (s : State) : s.nextPlace.order = s.order + 1 := rfl

/-- A port after a change of a port. -/
theorem State.port_modPort (s : State) (p q : PortId) (f : Port → Port) :
    (s.modPort p f).port q = if p = q then f (s.port p) else s.port q := by
  simp only [State.port, State.modPort, Fin.getElem_fin, Vector.getElem_set, Fin.ext_iff]

@[simp] theorem State.port_modPort_same (s : State) (p : PortId) (f : Port → Port) :
    (s.modPort p f).port p = f (s.port p) := by simp [State.port_modPort]

theorem State.port_modPort_other (s : State) {p q : PortId} (f : Port → Port) (h : p ≠ q) :
    (s.modPort p f).port q = s.port q := by simp [State.port_modPort, h]

/-- A port after a change of a link. -/
theorem State.port_modLink (s : State) (p q : PortId) (f : Link → Link) :
    (s.modLink p f).port q = if p = q then { s.port p with link := f (s.link p) } else s.port q :=
  State.port_modPort s p q fun port => { port with link := f (s.link p) }

/-- A link after a change of a link. -/
theorem State.link_modLink (s : State) (p q : PortId) (f : Link → Link) :
    (s.modLink p f).link q = if p = q then f (s.link p) else s.link q := by
  rw [State.link, State.port_modLink]; split <;> rfl

@[simp] theorem State.link_modLink_same (s : State) (p : PortId) (f : Link → Link) :
    (s.modLink p f).link p = f (s.link p) := by simp [State.link_modLink]

theorem State.link_modLink_other (s : State) {p q : PortId} (f : Link → Link) (h : p ≠ q) :
    (s.modLink p f).link q = s.link q := by simp [State.link_modLink, h]

/-- A bank after a change of a bank. -/
theorem State.bank_modBank (s : State) (b c : BankId) (f : Bank → Bank) :
    (s.modBank b f).bank c = if b = c then f (s.bank b) else s.bank c := by
  simp only [State.bank, State.modBank, Fin.getElem_fin, Vector.getElem_set, Fin.ext_iff]

@[simp] theorem State.bank_modBank_same (s : State) (b : BankId) (f : Bank → Bank) :
    (s.modBank b f).bank b = f (s.bank b) := by simp [State.bank_modBank]

@[simp] theorem State.bank_mapBanks (s : State) (b : BankId) (f : Bank → Bank) :
    (s.mapBanks f).bank b = f (s.bank b) := by simp [State.bank, State.mapBanks]

/-- An entry after a change of an entry. -/
theorem State.entry_modEntry (s : State) (i j : ApIndex) (f : ApEntry → ApEntry) :
    (s.modEntry i f).entry j = if i = j then f (s.entry i) else s.entry j := by
  simp only [State.entry, State.modEntry, Fin.getElem_fin, Vector.getElem_set, Fin.ext_iff]

@[simp] theorem State.entry_modEntry_same (s : State) (i : ApIndex) (f : ApEntry → ApEntry) :
    (s.modEntry i f).entry i = f (s.entry i) := by simp [State.entry_modEntry]

/-- A hold after a hold is set. -/
theorem State.hold_setHold (s : State) (g h : HoldId) (entry : Option Hold) :
    (s.setHold g entry).hold h = if g = h then entry else s.hold h := by
  simp only [State.hold, State.setHold, Fin.getElem_fin, Vector.getElem_set, Fin.ext_iff]

@[simp] theorem State.hold_setHold_same (s : State) (h : HoldId) (entry : Option Hold) :
    (s.setHold h entry).hold h = entry := by simp [State.hold_setHold]

/-- A tag after a tag is set. -/
theorem State.tagHolder_setTag (s : State) (p q : PortId) (t u : Tag) (holder : Option Holder) :
    (s.setTag p t holder).tagHolder q u = if p = q ∧ t = u then holder else s.tagHolder q u := by
  by_cases hp : p = q
  · subst hp
    simp [State.tagHolder, State.setTag, Vector.getElem_set, Fin.ext_iff]
  · simp [State.tagHolder, State.setTag, State.port_modPort, hp]

/-- A port after new attempts are prompted. -/
@[simp] theorem State.port_promptAttempts (s : State) (p : PortId) : s.promptAttempts.port p = promptPort (s.port p) := by
  simp [State.port, State.promptAttempts]

/-- A prompted port differs in nothing but its due attempt. -/
theorem promptPort_eq (port : Port) : promptPort port = { port with attemptDue := (promptPort port).attemptDue } := by
  unfold promptPort; split <;> rfl

@[simp] theorem promptPort_link (port : Port) : (promptPort port).link = port.link := by unfold promptPort; split <;> rfl

@[simp] theorem State.link_modPort (s : State) (p q : PortId) (f : Port → Port) (h : ∀ port, (f port).link = port.link) :
    (s.modPort p f).link q = s.link q := by
  rw [State.link, State.port_modPort]; split
  · next e => subst e; exact h _
  · rfl

@[simp] theorem State.link_promptAttempts (s : State) (p : PortId) : s.promptAttempts.link p = s.link p := by
  rw [State.link, State.port_promptAttempts, promptPort_link, State.link]

end Sys2Proof.Machine
end

