-- ==== Sys2Proof/Laws/Ops.lean ====
section
/-! SUPPORT. What reporting can do: offering a record, raising events, the attention test. None of them changes anything but the
event and fault unit, the event queues with their events-lost flags, and the next place of the order. -/

namespace Sys2Proof.Machine

/-- A port that reporting has changed. -/
def PortReports (before after : Port) : Prop :=
  after = { before with events := after.events, eventsLost := after.eventsLost }

theorem PortReports.refl (port : Port) : PortReports port port := rfl

theorem PortReports.trans {a b c : Port} (h : PortReports a b) (k : PortReports b c) : PortReports a c := by
  unfold PortReports at *; rw [k, h]

/-- Nothing but what reporting changes differs between two states. -/
structure Reports (s t : State) : Prop where
  device : t.device = s.device
  staged : t.staged = s.staged
  active : t.active = s.active
  tickCount : t.tickCount = s.tickCount
  apertures : t.apertures = s.apertures
  holds : t.holds = s.holds
  banks : t.banks = s.banks
  mgmt : t.mgmt = s.mgmt
  memory : t.memory = s.memory
  health : t.health = s.health
  ticksDue : t.ticksDue = s.ticksDue
  tickDecisions : t.tickDecisions = s.tickDecisions
  parityPending : t.parityPending = s.parityPending
  pending : t.pending = s.pending
  order : s.order ≤ t.order
  ports : ∀ p, PortReports (s.port p) (t.port p)

theorem Reports.refl (s : State) : Reports s s :=
  ⟨rfl, rfl, rfl, rfl, rfl, rfl, rfl, rfl, rfl, rfl, rfl, rfl, rfl, rfl, Nat.le_refl _, fun _ => .refl _⟩

theorem Reports.trans {a b c : State} (h : Reports a b) (k : Reports b c) : Reports a c :=
  ⟨k.device.trans h.device, k.staged.trans h.staged, k.active.trans h.active, k.tickCount.trans h.tickCount,
    k.apertures.trans h.apertures, k.holds.trans h.holds, k.banks.trans h.banks, k.mgmt.trans h.mgmt,
    k.memory.trans h.memory, k.health.trans h.health, k.ticksDue.trans h.ticksDue,
    k.tickDecisions.trans h.tickDecisions, k.parityPending.trans h.parityPending, k.pending.trans h.pending,
    Nat.le_trans h.order k.order, fun p => (h.ports p).trans (k.ports p)⟩

theorem Reports.link {s t : State} (h : Reports s t) (p : PortId) : t.link p = s.link p := by
  rw [State.link, h.ports p]; rfl

theorem Reports.bank {s t : State} (h : Reports s t) (b : BankId) : t.bank b = s.bank b := by
  rw [State.bank, State.bank, h.banks]

theorem Reports.entry {s t : State} (h : Reports s t) (i : ApIndex) : t.entry i = s.entry i := by
  rw [State.entry, State.entry, h.apertures]

theorem Reports.hold {s t : State} (h : Reports s t) (i : HoldId) : t.hold i = s.hold i := by
  rw [State.hold, State.hold, h.holds]

theorem Reports.slot {s t : State} (h : Reports s t) (p : PortId) (k : SlotId) : t.slot p k = s.slot p k := by
  rw [State.slot, h.ports p]; rfl

theorem Reports.tagHolder {s t : State} (h : Reports s t) (p : PortId) (tag : Tag) :
    t.tagHolder p tag = s.tagHolder p tag := by rw [State.tagHolder, h.ports p]; rfl

theorem reports_modFaults (s : State) (f : FaultUnit → FaultUnit) : Reports s (s.modFaults f) :=
  ⟨rfl, rfl, rfl, rfl, rfl, rfl, rfl, rfl, rfl, rfl, rfl, rfl, rfl, rfl, Nat.le_refl _, fun _ => .refl _⟩

/-- A change of a port that is one of reporting. -/
theorem reports_modPort {s : State} {p : PortId} {f : Port → Port} (h : PortReports (s.port p) (f (s.port p))) :
    Reports s (s.modPort p f) := by
  refine ⟨rfl, rfl, rfl, rfl, rfl, rfl, rfl, rfl, rfl, rfl, rfl, rfl, rfl, rfl, Nat.le_refl _, fun q => ?_⟩
  rw [State.port_modPort]
  split
  · next e => subst e; exact h
  · exact .refl _

theorem reports_nextPlace (s : State) : Reports s s.nextPlace :=
  ⟨rfl, rfl, rfl, rfl, rfl, rfl, rfl, rfl, rfl, rfl, rfl, rfl, rfl, rfl, Nat.le_succ _, fun _ => .refl _⟩

/-- A fold of reporting steps reports. -/
theorem reports_foldl {α : Type} {f : State → α → State} (h : ∀ s a, Reports s (f s a)) :
    ∀ (list : List α) (s : State), Reports s (list.foldl f s)
  | [], s => .refl s
  | a :: rest, s => (h s a).trans (reports_foldl h rest (f s a))

theorem reports_placeEvent (s : State) (p : PortId) (e : Event) : Reports s (s.placeEvent p e) :=
  (reports_modPort (by rfl)).trans (reports_nextPlace _)

theorem reports_raiseWith {lost : State → State} (h : ∀ s, Reports s (lost s)) (s : State) (p : PortId) (e : Event) :
    Reports s (s.raiseWith lost p e) := by
  unfold State.raiseWith
  split
  · exact .refl _
  · split
    · exact reports_placeEvent _ _ _
    · exact (reports_modPort (by rfl)).trans (h _)

theorem reports_raiseAttention (s : State) : Reports s s.raiseAttention :=
  reports_foldl (fun s p => by
    split
    · exact reports_raiseWith (fun s => reports_modFaults s _) s p _
    · exact .refl _) _ _

theorem reports_attentionTest (s : State) : Reports s s.attentionTest := by
  unfold State.attentionTest
  split
  · split
    · exact .refl _
    · exact (reports_modFaults _ _).trans (reports_raiseAttention _)
  · split
    · exact reports_modFaults _ _
    · exact .refl _

/-- All that offering a record can do. -/
theorem reports_offer (s : State) (fault : Offer) : Reports s (s.offer fault) := by
  unfold State.offer
  dsimp only
  split
  · exact (reports_modFaults _ _).trans (reports_attentionTest _)
  · exact reports_modFaults _ _

theorem reports_offerAll (s : State) (faults : List Offer) : Reports s (s.offerAll faults) :=
  reports_foldl reports_offer faults s

/-- All that raising an event can do. -/
theorem reports_raise (s : State) (p : PortId) (e : Event) : Reports s (s.raise p e) :=
  reports_raiseWith (fun s => reports_offer s _) s p e

theorem reports_raiseDeviceState (s : State) (news : StateNews) : Reports s (s.raiseDeviceState news) :=
  reports_foldl (fun s p => reports_raise s p _) _ _

theorem reports_raiseFreed (s : State) (ports : BitVec 4) (i : ApIndex) : Reports s (s.raiseFreed ports i) :=
  reports_foldl (fun s p => by
    split
    · exact reports_raise _ _ _
    · exact .refl _) _ _

/-! ### The fault unit under an offer -/

/-- The log never holds more than 64 records after an offer (R154). -/
theorem logOffer_length {u : FaultUnit} (h : u.log.length ≤ Config.logDepth) (stamp : Word) (fault : Offer) :
    (logOffer u stamp fault).1.log.length ≤ Config.logDepth := by
  have merge : ∀ log : List FaultRecord, (mergeNewest log).length = log.length := by
    intro log
    induction log with
    | nil => rfl
    | cons head rest ih => cases rest <;> simp_all [mergeNewest]
  unfold logOffer
  split
  · exact h
  · split
    · simpa [merge] using h
    · split
      · simp [storeRecord]; omega
      · exact h

end Sys2Proof.Machine
end

