-- ==== Sys2Proof/Laws/Frames.lean ====
section
/-! SUPPORT. What the shared operations of the links, the front end, the aperture table, the hold table and the device states can do. None
of them touches the memory array, the unit health, the timebase, the staged profile or the model's queue; and the end of a hold frees that
hold alone. -/

namespace Sys2Proof.Machine

/-! ### What no operation but a service, a tick, a disturbance and PROFILE_STAGE touches -/

/-- The memory array, the unit health, the timebase, the staged profile and the model's queue are as before. -/
structure Calm (s t : State) : Prop where
  memory : t.memory = s.memory
  health : t.health = s.health
  tickCount : t.tickCount = s.tickCount
  staged : t.staged = s.staged
  pending : t.pending = s.pending

theorem Calm.refl (s : State) : Calm s s := ⟨rfl, rfl, rfl, rfl, rfl⟩

theorem Calm.trans {a b c : State} (h : Calm a b) (k : Calm b c) : Calm a c :=
  ⟨k.memory.trans h.memory, k.health.trans h.health, k.tickCount.trans h.tickCount, k.staged.trans h.staged,
    k.pending.trans h.pending⟩

theorem Calm.byteOf {s t : State} (h : Calm s t) (address : Nat) : t.byteOf address = s.byteOf address := by
  rw [State.byteOf, h.memory]

theorem Calm.unitHealth {s t : State} (h : Calm s t) (unit : UnitAddr) : t.unitHealth unit = s.unitHealth unit := by
  rw [State.unitHealth, State.unitHealth, h.health]

/-- Reporting is calm. -/
theorem Reports.calm {s t : State} (h : Reports s t) : Calm s t := ⟨h.memory, h.health, h.tickCount, h.staged, h.pending⟩

/-- A fold of calm steps is calm. -/
theorem calm_foldl {α : Type} {f : State → α → State} (h : ∀ s a, Calm s (f s a)) :
    ∀ (list : List α) (s : State), Calm s (list.foldl f s)
  | [], s => .refl s
  | a :: rest, s => (h s a).trans (calm_foldl h rest (f s a))

theorem calm_ite {c : Prop} [Decidable c] {s a b : State} (h : Calm s a) (k : Calm s b) : Calm s (if c then a else b) := by
  split
  · exact h
  · exact k

theorem calm_modPort (s : State) (p : PortId) (f : Port → Port) : Calm s (s.modPort p f) := ⟨rfl, rfl, rfl, rfl, rfl⟩
theorem calm_modLink (s : State) (p : PortId) (f : Link → Link) : Calm s (s.modLink p f) := ⟨rfl, rfl, rfl, rfl, rfl⟩
theorem calm_modBank (s : State) (b : BankId) (f : Bank → Bank) : Calm s (s.modBank b f) := ⟨rfl, rfl, rfl, rfl, rfl⟩
theorem calm_mapBanks (s : State) (f : Bank → Bank) : Calm s (s.mapBanks f) := ⟨rfl, rfl, rfl, rfl, rfl⟩
theorem calm_modEntry (s : State) (i : ApIndex) (f : ApEntry → ApEntry) : Calm s (s.modEntry i f) := ⟨rfl, rfl, rfl, rfl, rfl⟩
theorem calm_setHold (s : State) (h : HoldId) (e : Option Hold) : Calm s (s.setHold h e) := ⟨rfl, rfl, rfl, rfl, rfl⟩
theorem calm_setTag (s : State) (p : PortId) (t : Tag) (h : Option Holder) : Calm s (s.setTag p t h) := ⟨rfl, rfl, rfl, rfl, rfl⟩
theorem calm_modMgmt (s : State) (f : Mgmt → Mgmt) : Calm s (s.modMgmt f) := ⟨rfl, rfl, rfl, rfl, rfl⟩
theorem calm_setDevice (s : State) (d : DevState) : Calm s (s.setDevice d) := ⟨rfl, rfl, rfl, rfl, rfl⟩
theorem calm_nextPlace (s : State) : Calm s s.nextPlace := ⟨rfl, rfl, rfl, rfl, rfl⟩
theorem calm_popHead (s : State) (p : PortId) : Calm s (s.popHead p) := ⟨rfl, rfl, rfl, rfl, rfl⟩
theorem calm_promptAttempts (s : State) : Calm s s.promptAttempts := ⟨rfl, rfl, rfl, rfl, rfl⟩
theorem calm_offer (s : State) (fault : Offer) : Calm s (s.offer fault) := (reports_offer s fault).calm
theorem calm_raise (s : State) (p : PortId) (e : Event) : Calm s (s.raise p e) := (reports_raise s p e).calm

/-! ### Responses -/

theorem calm_respond (s : State) (p : PortId) (r : Response) : Calm s (s.respond p r) :=
  calm_ite (((calm_setTag ..).trans (calm_modPort ..)).trans (calm_nextPlace _))
    (((calm_setTag ..).trans (calm_offer ..)).trans (calm_raise ..))

theorem calm_answer (s : State) (p : PortId) (r : Response) : Calm s (s.answer p r) :=
  (calm_popHead s p).trans (calm_respond ..)

theorem calm_fenceTest (s : State) (p : PortId) : Calm s (s.fenceTest p) := calm_ite (calm_answer ..) (.refl _)

/-! ### Links -/

theorem calm_enterRetrain (s : State) (p : PortId) (cause : FaultCode) : Calm s (s.enterRetrain p cause) :=
  (calm_modLink ..).trans (calm_offer ..)

theorem calm_trainEnabled (s : State) : Calm s s.trainEnabled :=
  calm_foldl (fun _ _ => calm_ite (calm_modLink ..) (.refl _)) _ _

theorem calm_processAck (s : State) (p : PortId) (ack : Seq) : Calm s (s.processAck p ack) :=
  calm_ite (calm_modLink ..) (calm_offer ..)

theorem calm_replayDue (s : State) (p : PortId) : Calm s (s.replayDue p) :=
  calm_ite (calm_modLink ..) (calm_enterRetrain ..)

theorem calm_trainingTest (s : State) (p : PortId) : Calm s (s.trainingTest p) := by
  unfold State.trainingTest
  refine calm_ite ?_ (.refl _)
  split
  · exact calm_modLink ..
  · split
    · exact calm_ite (calm_modLink ..) ((calm_modLink ..).trans (calm_offer ..))
    · exact calm_modLink ..
  · exact .refl _

theorem calm_acceptFreshRequest (s : State) (p : PortId) : Calm s (s.acceptFreshRequest p) :=
  (calm_modLink ..).trans (calm_trainingTest ..)

theorem calm_acceptRetrainRequest (s : State) (p : PortId) (ack : Seq) : Calm s (s.acceptRetrainRequest p ack) :=
  (calm_modLink ..).trans (calm_trainingTest ..)

theorem calm_sendParcel (s : State) (p : PortId) (kind : SendKind) : Calm s (s.sendParcel p kind) := by
  cases kind
  case newData => exact (calm_modPort ..).trans (calm_modLink ..)
  all_goals exact calm_modLink ..

/-! ### Holds -/

theorem calm_reportHoldEnd (s : State) (h : HoldId) (hold : Hold) (cause : HoldEnd) : Calm s (s.reportHoldEnd h hold cause) := by
  cases cause
  case release => exact .refl _
  case teardown => exact .refl _
  case broken => exact calm_raise ..
  case expiry => exact (calm_raise ..).trans (calm_offer ..)

theorem calm_endHold (s : State) (h : HoldId) (cause : HoldEnd) : Calm s (s.endHold h cause) := by
  unfold State.endHold
  split
  · exact .refl _
  · exact ((calm_setHold ..).trans (calm_reportHoldEnd ..)).trans (calm_mapBanks ..)

theorem calm_endHolds (s : State) (cause : HoldEnd) (which : Hold → Bool) : Calm s (s.endHolds cause which) :=
  calm_foldl (fun _ _ => calm_ite (calm_endHold ..) (.refl _)) _ _

/-- The event and the record of the end of a hold are reporting. -/
theorem reports_reportHoldEnd (s : State) (h : HoldId) (hold : Hold) (cause : HoldEnd) :
    Reports s (s.reportHoldEnd h hold cause) := by
  cases cause
  case release => exact .refl _
  case teardown => exact .refl _
  case broken => exact reports_raise ..
  case expiry => exact (reports_raise ..).trans (reports_offer ..)

/-- All that the end of hold `h` does to the hold table: that hold becomes FREE and no other changes (R134). -/
theorem hold_endHold (s : State) (h : HoldId) (cause : HoldEnd) (g : HoldId) :
    (s.endHold h cause).hold g = if g = h then none else s.hold g := by
  unfold State.endHold
  split
  · next e =>
    split
    · next same => rw [same, e]
    · rfl
  · next hold e =>
    have same : ((((s.setHold h none).reportHoldEnd h hold cause).retest h).hold g) = (s.setHold h none).hold g :=
      (reports_reportHoldEnd (s.setHold h none) h hold cause).hold g
    rw [same, State.hold_setHold]
    simp only [eq_comm]

/-! ### Slots and the aperture table -/

theorem calm_setSlot (s : State) (p : PortId) (k : SlotId) (new : Slot) : Calm s (s.setSlot p k new) := by
  unfold State.setSlot
  dsimp only
  refine Calm.trans ?_ (calm_modPort ..)
  split
  · refine Calm.trans ?_ (calm_modEntry ..)
    split
    · exact calm_modEntry ..
    · exact .refl _
  · split
    · exact calm_modEntry ..
    · exact .refl _

theorem calm_raiseStale (s : State) (p : PortId) (slots : BitVec 8) : Calm s (s.raiseStale p slots) :=
  calm_ite (.refl _) (calm_raise ..)

theorem calm_stalePortSlots (s : State) (p : PortId) (which : SlotCopy → Bool) : Calm s (s.stalePortSlots p which) :=
  (calm_modPort ..).trans (calm_raiseStale ..)

theorem calm_raiseStaled (s before : State) (which : PortId → SlotCopy → Bool) : Calm s (s.raiseStaled before which) :=
  calm_foldl (fun _ _ => calm_raiseStale ..) _ _

theorem calm_walkSlots (s : State) (change : PortId → Slot → Slot) : Calm s (s.walkSlots change) :=
  calm_foldl (fun _ _ => calm_modPort ..) _ _

theorem calm_retireWalk (i : ApIndex) : ∀ (list : List (PortId × SlotId)) (s : State), Calm s (s.retireWalk i list).1
  | [], s => .refl s
  | (p, k) :: rest, s => by
    unfold State.retireWalk
    split
    · split
      · exact .refl _
      · exact (calm_modPort ..).trans (calm_retireWalk i rest _)
    · exact calm_retireWalk i rest s

theorem calm_freeEntry (s : State) (i : ApIndex) : Calm s (s.freeEntry i) :=
  (calm_modEntry ..).trans (reports_raiseFreed ..).calm

theorem calm_dropInFlight (s : State) (i : ApIndex) : Calm s (s.dropInFlight i) := calm_modEntry ..

/-! ### Device states, failed lookups and teardown -/

theorem calm_enterReady (s : State) : Calm s s.enterReady :=
  ((calm_setDevice ..).trans (calm_trainEnabled _)).trans (reports_raiseDeviceState ..).calm

theorem calm_enterHalted (s : State) (cause : Offer) : Calm s (s.enterHalted cause) :=
  (((calm_setDevice ..).trans (calm_offer ..)).trans (calm_trainEnabled _)).trans (reports_raiseDeviceState ..).calm

theorem calm_parityFail (s : State) (i : ApIndex) : Calm s (s.parityFail i) := calm_ite (calm_offer ..) (calm_enterHalted ..)

theorem calm_parityDefer (s : State) (i : ApIndex) : Calm s (s.parityDefer i) :=
  calm_ite (calm_offer ..) ⟨rfl, rfl, rfl, rfl, rfl⟩

theorem calm_finishParity (s : State) : Calm s s.finishParity :=
  Calm.trans (b := { s with parityPending := [] }) ⟨rfl, rfl, rfl, rfl, rfl⟩ (calm_foldl calm_parityFail _ _)

theorem calm_lookupDrained {failed : State → ApIndex → State} (h : ∀ s i, Calm s (failed s i)) (s : State) (i : ApIndex) :
    Calm s (s.lookupDrained failed i) := calm_ite (h ..) (calm_ite (calm_freeEntry ..) (.refl _))

theorem calm_dropEntries : ∀ (list : List Entry) (s : State), Calm s (s.dropEntries list).1
  | [], s => .refl s
  | entry :: rest, s => (calm_dropInFlight s entry.aperture).trans (calm_dropEntries rest _)

theorem calm_teardownQueues (s : State) (p : PortId) (cause : Teardown) : Calm s (s.teardownQueues p cause).1 := by
  have emptied := ((((calm_modLink s p (tornLink cause (s.port p).config.enabled)).trans (calm_mapBanks _ (tornBank p))).trans
    (calm_dropEntries ((s.modLink p (tornLink cause (s.port p).config.enabled)).leavingEntries p) _)).trans
      (calm_modPort _ p emptyPort)).trans (calm_modLink _ p emptyReplay)
  exact calm_ite emptied (emptied.trans (calm_promptAttempts _))

theorem calm_teardownRecord (s : State) (p : PortId) (cause : Teardown) : Calm s (s.teardownRecord p cause) := by
  cases cause
  case linkFailure => exact calm_offer ..
  case hostReset => exact calm_offer ..
  all_goals exact .refl _

/-- Teardown touches none of what `Calm` names (R20). -/
theorem calm_teardownCore (s : State) (p : PortId) (cause : Teardown) : Calm s (s.teardownCore p cause) :=
  (((((calm_teardownQueues s p cause).trans (calm_foldl (fun _ _ => calm_setSlot ..) _ _)).trans (calm_endHolds ..)).trans
    (calm_modMgmt ..)).trans (calm_teardownRecord ..)).trans (calm_foldl (calm_lookupDrained calm_parityDefer) _ _)

theorem calm_completeDrain (s : State) : Calm s s.completeDrain := by
  unfold State.completeDrain
  split
  · next next _ =>
    exact Calm.trans (b := { s with active := next }) ⟨rfl, rfl, rfl, rfl, rfl⟩ (calm_enterReady _)
  · exact (calm_setDevice ..).trans (calm_foldl (fun _ _ => calm_teardownCore ..) _ _)
  · exact .refl _

theorem calm_drainTest (s : State) : Calm s s.drainTest := calm_ite (calm_completeDrain s) (.refl _)

theorem calm_drainEvent (s : State) : Calm s s.drainEvent :=
  calm_ite ((calm_completeDrain s).trans (calm_finishParity _)) (.refl _)

/-- Outside DRAINING the drain completion test of an event does nothing (R14). -/
theorem drainEvent_of_not_draining {s : State} (h : s.device.isDraining = false) : s.drainEvent = s := by
  simp [State.drainEvent, h]

/-- While something is left to drain, the drain completion test of an event does nothing (R14). -/
theorem drainEvent_of_not_done {s : State} (h : s.drainDone = false) : s.drainEvent = s := by
  simp [State.drainEvent, h]

theorem calm_teardown (s : State) (p : PortId) (cause : Teardown) : Calm s (s.teardown p cause) :=
  (calm_teardownCore ..).trans (calm_drainTest _)

theorem calm_enterDraining (s : State) (reason : Drain) : Calm s (s.enterDraining reason) :=
  (((calm_setDevice ..).trans (calm_endHolds ..)).trans (reports_raiseDeviceState ..).calm).trans (calm_drainTest _)

theorem calm_enterInitializing (s : State) : Calm s s.enterInitializing := (calm_setDevice ..).trans (calm_mapBanks ..)

end Sys2Proof.Machine
end

