-- ==== Sys2Proof/Laws/Memory.lean ====
section
/-! SUPPORT. The laws of a memory in canonical form: what a read gives after a write, and that writing and clearing keep the
form. -/

namespace Sys2Proof.Machine

variable {α : Type} [DecidableEq α] {blank : α}

omit [DecidableEq α] in
theorem sparseWf_nil : sparseWf blank ([] : List (Nat × α)) := ⟨.nil, by simp⟩

omit [DecidableEq α] in
theorem sparseWf_tail {cell : Nat × α} {memory : List (Nat × α)} (h : sparseWf blank (cell :: memory)) :
    sparseWf blank memory := ⟨h.1.tail, fun c m => h.2 c (List.mem_cons_of_mem _ m)⟩

omit [DecidableEq α] in
/-- An address below every listed one is not listed. -/
theorem sparseRead_below {memory : List (Nat × α)} {address : Nat} (h : ∀ cell ∈ memory, address < cell.1) :
    sparseRead blank memory address = blank := by
  induction memory with
  | nil => rfl
  | cons cell rest ih =>
    obtain ⟨key, value⟩ := cell
    have : key ≠ address := by have := h _ List.mem_cons_self; simp at this; omega
    rw [sparseRead, if_neg this]
    exact ih fun c m => h c (List.mem_cons_of_mem _ m)

/-- Every cell of a written memory is a cell of the old one or the written cell. -/
theorem mem_sparseWrite {memory : List (Nat × α)} {address : Nat} {new : α} {cell : Nat × α}
    (h : cell ∈ sparseWrite blank memory address new) : cell ∈ memory ∨ (cell = (address, new) ∧ new ≠ blank) := by
  induction memory with
  | nil =>
    rw [sparseWrite] at h
    split at h
    · simp at h
    · next ne => simp at h; exact .inr ⟨h, ne⟩
  | cons head rest ih =>
    obtain ⟨key, value⟩ := head
    rw [sparseWrite] at h
    split at h
    · split at h
      · exact .inl h
      · next ne =>
        rcases List.mem_cons.1 h with e | m
        · exact .inr ⟨e, ne⟩
        · exact .inl m
    · split at h
      · split at h
        · exact .inl (List.mem_cons_of_mem _ h)
        · next ne =>
          rcases List.mem_cons.1 h with e | m
          · exact .inr ⟨e, ne⟩
          · exact .inl (List.mem_cons_of_mem _ m)
      · rcases List.mem_cons.1 h with e | m
        · exact .inl (e ▸ List.mem_cons_self)
        · rcases ih m with i | i
          · exact .inl (List.mem_cons_of_mem _ i)
          · exact .inr i

/-- A write keeps the canonical form. -/
theorem sparseWf_write {memory : List (Nat × α)} (h : sparseWf blank memory) (address : Nat) (new : α) :
    sparseWf blank (sparseWrite blank memory address new) := by
  induction memory with
  | nil =>
    rw [sparseWrite]
    split
    · exact h
    · next ne => exact ⟨by simp, by simpa using ne⟩
  | cons head rest ih =>
    obtain ⟨key, value⟩ := head
    have tail := sparseWf_tail h
    have above : ∀ cell ∈ rest, key < cell.1 := by
      intro cell m; exact (List.pairwise_cons.1 h.1).1 cell m
    rw [sparseWrite]
    split
    · next lt =>
      split
      · exact h
      · next ne =>
        refine ⟨List.pairwise_cons.2 ⟨?_, h.1⟩, ?_⟩
        · intro cell m
          rcases List.mem_cons.1 m with e | m
          · subst e; exact lt
          · exact Nat.lt_trans lt (above cell m)
        · intro cell m
          rcases List.mem_cons.1 m with e | m
          · subst e; exact ne
          · exact h.2 cell m
    · next ge =>
      split
      · next e =>
        split
        · exact tail
        · next ne =>
          refine ⟨List.pairwise_cons.2 ⟨?_, tail.1⟩, ?_⟩
          · intro cell m; rw [e]; exact above cell m
          · intro cell m
            rcases List.mem_cons.1 m with i | m
            · subst i; exact ne
            · exact tail.2 cell m
      · next ne =>
        have inner := ih tail
        refine ⟨List.pairwise_cons.2 ⟨?_, inner.1⟩, ?_⟩
        · intro cell m
          rcases mem_sparseWrite m with i | ⟨i, -⟩
          · exact above cell i
          · subst i; simp; omega
        · intro cell m
          rcases List.mem_cons.1 m with i | m
          · subst i; exact h.2 _ List.mem_cons_self
          · exact inner.2 cell m

/-- A read after a write gives the value written there and the old value elsewhere. -/
theorem sparseRead_write {memory : List (Nat × α)} (h : sparseWf blank memory) (address other : Nat) (new : α) :
    sparseRead blank (sparseWrite blank memory address new) other =
      if other = address then new else sparseRead blank memory other := by
  induction memory with
  | nil =>
    rw [sparseWrite]
    by_cases e : other = address
    · subst e; split <;> simp_all [sparseRead]
    · have : address ≠ other := fun i => e i.symm
      split <;> simp_all [sparseRead]
  | cons head rest ih =>
    obtain ⟨key, value⟩ := head
    have tail := sparseWf_tail h
    have above : ∀ cell ∈ rest, key < cell.1 := fun cell m => (List.pairwise_cons.1 h.1).1 cell m
    have below : sparseRead blank rest key = blank := sparseRead_below above
    rw [sparseWrite]
    split
    · next lt =>
      have under : ∀ cell ∈ (key, value) :: rest, address < cell.1 := by
        intro cell m
        rcases List.mem_cons.1 m with e | m
        · subst e; exact lt
        · exact Nat.lt_trans lt (above cell m)
      have old : sparseRead blank ((key, value) :: rest) address = blank := sparseRead_below under
      by_cases e : other = address
      · subst e
        split
        · next b => simp [old, b]
        · simp [sparseRead]
      · have : address ≠ other := fun i => e i.symm
        rw [if_neg e]
        split
        · rfl
        · simp [sparseRead, this]
    · split
      · next e =>
        subst e
        by_cases i : other = address
        · subst i
          split
          · next b => simp [below, b]
          · simp [sparseRead]
        · have : address ≠ other := fun k => i k.symm
          rw [if_neg i]
          split <;> simp [sparseRead, this]
      · next ge ne =>
        rw [sparseRead, ih tail]
        by_cases i : key = other
        · subst i; simp [sparseRead, Ne.symm ne]
        · simp [sparseRead, i]

omit [DecidableEq α] in
/-- Clearing keeps the canonical form. -/
theorem sparseWf_clear {memory : List (Nat × α)} (h : sparseWf blank memory) (cleared : Nat → Bool) :
    sparseWf blank (sparseClear memory cleared) :=
  ⟨h.1.filter _, fun cell m => h.2 cell (List.mem_of_mem_filter m)⟩

omit [DecidableEq α] in
/-- A read after clearing: blank where it was cleared, the old value elsewhere. -/
theorem sparseRead_clear {memory : List (Nat × α)} (h : sparseWf blank memory) (cleared : Nat → Bool) (address : Nat) :
    sparseRead blank (sparseClear memory cleared) address =
      if cleared address then blank else sparseRead blank memory address := by
  induction memory with
  | nil => simp [sparseClear, sparseRead]
  | cons head rest ih =>
    obtain ⟨key, value⟩ := head
    have tail := sparseWf_tail h
    have above : ∀ cell ∈ rest, key < cell.1 := fun cell m => (List.pairwise_cons.1 h.1).1 cell m
    have inner := ih tail
    simp only [sparseClear] at inner
    by_cases c : cleared key = true
    · by_cases e : key = address
      · subst e
        simp [sparseClear, c, inner]
      · simp [sparseClear, c, inner, sparseRead, e]
    · by_cases e : key = address
      · subst e
        simp [sparseClear, c, sparseRead]
      · simp [sparseClear, c, inner, sparseRead, e]

/-- Writing bytes keeps the canonical form of a data memory. -/
theorem sparseWf_writeBytes {memory : List Host.Cell} (h : sparseWf 0 memory) (address : Nat) (bytes : List Byte) :
    sparseWf 0 (writeBytes memory address bytes) := by
  induction bytes generalizing memory address with
  | nil => exact h
  | cons byte rest ih => exact ih (sparseWf_write h _ _) _

/-- A read after bytes are written: the byte written there, the old byte outside. -/
theorem sparseRead_writeBytes {memory : List Host.Cell} (h : sparseWf 0 memory) (address other : Nat)
    (bytes : List Byte) :
    sparseRead 0 (writeBytes memory address bytes) other =
      if address ≤ other ∧ other < address + bytes.length then bytes.getD (other - address) 0
      else sparseRead 0 memory other := by
  induction bytes generalizing memory address with
  | nil =>
    have : ¬(address ≤ other ∧ other < address + 0) := by omega
    simp [writeBytes]
  | cons byte rest ih =>
    rw [writeBytes, ih (sparseWf_write h _ _), sparseRead_write h]
    by_cases low : address + 1 ≤ other ∧ other < address + 1 + rest.length
    · have : address ≤ other ∧ other < address + (byte :: rest).length := by simp; omega
      rw [if_pos low, if_pos this]
      have step : other - address = other - (address + 1) + 1 := by omega
      rw [step, List.getD_cons_succ]
    · rw [if_neg low]
      by_cases e : other = address
      · subst e; simp
      · have : ¬(address ≤ other ∧ other < address + (byte :: rest).length) := by simp; omega
        rw [if_neg e, if_neg this]

/-- A data memory written keeps its canonical form, and so does the health. -/
theorem State.memoryWf_setData {s : State} (h : s.MemoryWf) (unit : UnitAddr) (data : List Byte) :
    (s.setData unit data).MemoryWf := ⟨sparseWf_writeBytes h.data _ _, h.health⟩

theorem State.memoryWf_setHealth {s : State} (h : s.MemoryWf) (unit : UnitAddr) (health : Health) :
    (s.setHealth unit health).MemoryWf := ⟨h.data, sparseWf_write h.health _ _⟩

theorem State.memoryWf_clearUnits {s : State} (h : s.MemoryWf) (b : BankId) (position : Nat) :
    (s.clearUnits b position).MemoryWf :=
  ⟨by simpa only [State.clearUnits] using sparseWf_clear h.data _,
    by simpa only [State.clearUnits] using sparseWf_clear h.health _⟩

/-- Only memory and health matter to the canonical form. -/
theorem State.memoryWf_congr {s t : State} (h : s.MemoryWf) (memory : t.memory = s.memory) (health : t.health = s.health) :
    t.MemoryWf := ⟨memory ▸ h.data, health ▸ h.health⟩

/-- The health of a unit after it is set. -/
theorem State.unitHealth_setHealth {s : State} (h : s.MemoryWf) (unit other : UnitAddr) (health : Health) :
    (s.setHealth unit health).unitHealth other = if other = unit then health else s.unitHealth other := by
  simp only [State.unitHealth, State.setHealth, sparseRead_write h.health, BitVec.toNat_inj]

end Sys2Proof.Machine
end

