-- ==== Sys2Proof/WellFormed.lean ====
section
/-! DEFINITION. Which commands can be sent: the checks on a command's operands that its type does not make. -/

namespace Sys2Proof

/-- The command can be sent: a malformed parcel is malformed and a DATA body has 1 to 128 bytes (R28), a disturbance does
not make a unit CLEAN (R113), and an unknown SPI opcode is not one of Table 10-1 (R165). -/
def Instr.wellFormed : Instr → Bool
  | .memoryDisturbance _ health => decide (health ≠ .clean)
  | .malformedParcel _ frame => Machine.malformed frame
  | .receiveData _ _ _ body => Machine.bodySuits .data body.length
  | .spiBadOpcode opcode => decide (opcode ≠ 1 ∧ opcode ≠ 2 ∧ opcode ≠ 3)
  | .resetNAssert | .resetNRelease | .tick | .calibrationEnd | .refreshObligation _ | .holdExpiry _ | .ackTimeout _
  | .trainingTimeout _ | .tableDisturbance _ _ | .receiveAck _ _ | .receiveNak _ _ | .receiveTrainReq _ | .hostReset _
  | .receiveRetrainReq _ _ | .receiveTrainAck _ _ _ | .sendTrainAck _ | .sendTrainReq _ | .sendNak _ | .sendRetransmit _
  | .sendNewData _ | .sendAck _ | .shortRequest _ | .read _ | .write _ | .writeMasked _ | .atomic _ | .bind _ | .unbind _
  | .querySlot _ | .holdOpen _ | .holdRelease _ | .fence _ | .mgmt _ | .fenceAnswer _ | .admissionReattempt _
  | .bankDecision _ | .readService _ | .writeService _ | .writeMaskedService _ | .atomicService _ | .clearingService _
  | .refreshComplete _ | .drainComplete | .spiStatus | .spiResult | .spiSubmit _ | .regRead | .regWrite | .portstatWrite
  | .bankstatWrite | .logstatWrite | .logclassWrite | .alertmaskWrite | .apertureCreate | .apertureModify
  | .apertureRetire | .apertureRead | .portConfig | .portReset | .logPop | .logPeek | .logClear | .profileStage
  | .profileCommit | .quiesce | .resume | .datapathReset | .holdBreak | .injectEcc | .halt | .invalidRequestKind _
  | .unknownCommandCode => true

end Sys2Proof
end

