-- ==== Sys2Proof/Laws/PerInstr.lean ====
section
/-! SUPPORT. The per-command family Checked: which operands make a command one that can be sent. -/

namespace Sys2Proof.Laws.Checked

/-- What the check asks of a command: a condition on the operands of the four commands whose types admit operands that the spec
rules out (R28, R113, R165), and nothing of the others. -/
def Statement : Instr → Prop
  | .memoryDisturbance unit health => Instr.wellFormed (.memoryDisturbance unit health) = true ↔ health ≠ .clean
  | .malformedParcel port frame =>
    Instr.wellFormed (.malformedParcel port frame) = true ↔ Machine.parseParcel frame = none
  | .receiveData port seq ack body =>
    Instr.wellFormed (.receiveData port seq ack body) = true ↔ 1 ≤ body.length ∧ body.length ≤ 128
  | .spiBadOpcode opcode => Instr.wellFormed (.spiBadOpcode opcode) = true ↔ opcode ≠ 1 ∧ opcode ≠ 2 ∧ opcode ≠ 3
  | .resetNAssert => Instr.wellFormed .resetNAssert = true
  | .resetNRelease => Instr.wellFormed .resetNRelease = true
  | .tick => Instr.wellFormed .tick = true
  | .calibrationEnd => Instr.wellFormed .calibrationEnd = true
  | .refreshObligation bank => Instr.wellFormed (.refreshObligation bank) = true
  | .holdExpiry hold => Instr.wellFormed (.holdExpiry hold) = true
  | .ackTimeout port => Instr.wellFormed (.ackTimeout port) = true
  | .trainingTimeout port => Instr.wellFormed (.trainingTimeout port) = true
  | .tableDisturbance index bit => Instr.wellFormed (.tableDisturbance index bit) = true
  | .receiveAck port ack => Instr.wellFormed (.receiveAck port ack) = true
  | .receiveNak port ack => Instr.wellFormed (.receiveNak port ack) = true
  | .receiveTrainReq port => Instr.wellFormed (.receiveTrainReq port) = true
  | .hostReset port => Instr.wellFormed (.hostReset port) = true
  | .receiveRetrainReq port ack => Instr.wellFormed (.receiveRetrainReq port ack) = true
  | .receiveTrainAck port fresh ack => Instr.wellFormed (.receiveTrainAck port fresh ack) = true
  | .sendTrainAck port => Instr.wellFormed (.sendTrainAck port) = true
  | .sendTrainReq port => Instr.wellFormed (.sendTrainReq port) = true
  | .sendNak port => Instr.wellFormed (.sendNak port) = true
  | .sendRetransmit port => Instr.wellFormed (.sendRetransmit port) = true
  | .sendNewData port => Instr.wellFormed (.sendNewData port) = true
  | .sendAck port => Instr.wellFormed (.sendAck port) = true
  | .shortRequest port => Instr.wellFormed (.shortRequest port) = true
  | .read port => Instr.wellFormed (.read port) = true
  | .write port => Instr.wellFormed (.write port) = true
  | .writeMasked port => Instr.wellFormed (.writeMasked port) = true
  | .atomic port => Instr.wellFormed (.atomic port) = true
  | .bind port => Instr.wellFormed (.bind port) = true
  | .unbind port => Instr.wellFormed (.unbind port) = true
  | .querySlot port => Instr.wellFormed (.querySlot port) = true
  | .holdOpen port => Instr.wellFormed (.holdOpen port) = true
  | .holdRelease port => Instr.wellFormed (.holdRelease port) = true
  | .fence port => Instr.wellFormed (.fence port) = true
  | .mgmt port => Instr.wellFormed (.mgmt port) = true
  | .fenceAnswer port => Instr.wellFormed (.fenceAnswer port) = true
  | .admissionReattempt port => Instr.wellFormed (.admissionReattempt port) = true
  | .bankDecision bank => Instr.wellFormed (.bankDecision bank) = true
  | .readService bank => Instr.wellFormed (.readService bank) = true
  | .writeService bank => Instr.wellFormed (.writeService bank) = true
  | .writeMaskedService bank => Instr.wellFormed (.writeMaskedService bank) = true
  | .atomicService bank => Instr.wellFormed (.atomicService bank) = true
  | .clearingService bank => Instr.wellFormed (.clearingService bank) = true
  | .refreshComplete bank => Instr.wellFormed (.refreshComplete bank) = true
  | .drainComplete => Instr.wellFormed .drainComplete = true
  | .spiStatus => Instr.wellFormed .spiStatus = true
  | .spiResult => Instr.wellFormed .spiResult = true
  | .spiSubmit block => Instr.wellFormed (.spiSubmit block) = true
  | .regRead => Instr.wellFormed .regRead = true
  | .regWrite => Instr.wellFormed .regWrite = true
  | .portstatWrite => Instr.wellFormed .portstatWrite = true
  | .bankstatWrite => Instr.wellFormed .bankstatWrite = true
  | .logstatWrite => Instr.wellFormed .logstatWrite = true
  | .logclassWrite => Instr.wellFormed .logclassWrite = true
  | .alertmaskWrite => Instr.wellFormed .alertmaskWrite = true
  | .apertureCreate => Instr.wellFormed .apertureCreate = true
  | .apertureModify => Instr.wellFormed .apertureModify = true
  | .apertureRetire => Instr.wellFormed .apertureRetire = true
  | .apertureRead => Instr.wellFormed .apertureRead = true
  | .portConfig => Instr.wellFormed .portConfig = true
  | .portReset => Instr.wellFormed .portReset = true
  | .logPop => Instr.wellFormed .logPop = true
  | .logPeek => Instr.wellFormed .logPeek = true
  | .logClear => Instr.wellFormed .logClear = true
  | .profileStage => Instr.wellFormed .profileStage = true
  | .profileCommit => Instr.wellFormed .profileCommit = true
  | .quiesce => Instr.wellFormed .quiesce = true
  | .resume => Instr.wellFormed .resume = true
  | .datapathReset => Instr.wellFormed .datapathReset = true
  | .holdBreak => Instr.wellFormed .holdBreak = true
  | .injectEcc => Instr.wellFormed .injectEcc = true
  | .halt => Instr.wellFormed .halt = true
  | .invalidRequestKind port => Instr.wellFormed (.invalidRequestKind port) = true
  | .unknownCommandCode => Instr.wellFormed .unknownCommandCode = true

end Sys2Proof.Laws.Checked

open Sys2Proof Sys2Proof.Laws

theorem Sys2Proof.Laws.Checked.resetNAssert : Checked.Statement .resetNAssert := rfl
theorem Sys2Proof.Laws.Checked.resetNRelease : Checked.Statement .resetNRelease := rfl
theorem Sys2Proof.Laws.Checked.tick : Checked.Statement .tick := rfl
theorem Sys2Proof.Laws.Checked.calibrationEnd : Checked.Statement .calibrationEnd := rfl
theorem Sys2Proof.Laws.Checked.refreshObligation (bank : BankId) : Checked.Statement (.refreshObligation bank) := rfl
theorem Sys2Proof.Laws.Checked.holdExpiry (hold : HoldId) : Checked.Statement (.holdExpiry hold) := rfl
theorem Sys2Proof.Laws.Checked.ackTimeout (port : PortId) : Checked.Statement (.ackTimeout port) := rfl
theorem Sys2Proof.Laws.Checked.trainingTimeout (port : PortId) : Checked.Statement (.trainingTimeout port) := rfl
theorem Sys2Proof.Laws.Checked.memoryDisturbance (unit : UnitAddr) (health : Health) :
    Checked.Statement (.memoryDisturbance unit health) := by
  simp [Checked.Statement, Instr.wellFormed]
theorem Sys2Proof.Laws.Checked.tableDisturbance (index : ApIndex) (bit : StoredBit) :
    Checked.Statement (.tableDisturbance index bit) := rfl
theorem Sys2Proof.Laws.Checked.malformedParcel (port : PortId) (frame : List Byte) :
    Checked.Statement (.malformedParcel port frame) := by
  simp [Checked.Statement, Instr.wellFormed, Machine.malformed]
theorem Sys2Proof.Laws.Checked.receiveData (port : PortId) (seq ack : Seq) (body : List Byte) :
    Checked.Statement (.receiveData port seq ack body) := by
  show decide (1 ≤ body.length ∧ body.length ≤ 128) = true ↔ _
  exact decide_eq_true_iff
theorem Sys2Proof.Laws.Checked.receiveAck (port : PortId) (ack : Seq) : Checked.Statement (.receiveAck port ack) := rfl
theorem Sys2Proof.Laws.Checked.receiveNak (port : PortId) (ack : Seq) : Checked.Statement (.receiveNak port ack) := rfl
theorem Sys2Proof.Laws.Checked.receiveTrainReq (port : PortId) : Checked.Statement (.receiveTrainReq port) := rfl
theorem Sys2Proof.Laws.Checked.hostReset (port : PortId) : Checked.Statement (.hostReset port) := rfl
theorem Sys2Proof.Laws.Checked.receiveRetrainReq (port : PortId) (ack : Seq) :
    Checked.Statement (.receiveRetrainReq port ack) := rfl
theorem Sys2Proof.Laws.Checked.receiveTrainAck (port : PortId) (fresh : Bool) (ack : Seq) :
    Checked.Statement (.receiveTrainAck port fresh ack) := rfl
theorem Sys2Proof.Laws.Checked.sendTrainAck (port : PortId) : Checked.Statement (.sendTrainAck port) := rfl
theorem Sys2Proof.Laws.Checked.sendTrainReq (port : PortId) : Checked.Statement (.sendTrainReq port) := rfl
theorem Sys2Proof.Laws.Checked.sendNak (port : PortId) : Checked.Statement (.sendNak port) := rfl
theorem Sys2Proof.Laws.Checked.sendRetransmit (port : PortId) : Checked.Statement (.sendRetransmit port) := rfl
theorem Sys2Proof.Laws.Checked.sendNewData (port : PortId) : Checked.Statement (.sendNewData port) := rfl
theorem Sys2Proof.Laws.Checked.sendAck (port : PortId) : Checked.Statement (.sendAck port) := rfl
theorem Sys2Proof.Laws.Checked.shortRequest (port : PortId) : Checked.Statement (.shortRequest port) := rfl
theorem Sys2Proof.Laws.Checked.read (port : PortId) : Checked.Statement (.read port) := rfl
theorem Sys2Proof.Laws.Checked.write (port : PortId) : Checked.Statement (.write port) := rfl
theorem Sys2Proof.Laws.Checked.writeMasked (port : PortId) : Checked.Statement (.writeMasked port) := rfl
theorem Sys2Proof.Laws.Checked.atomic (port : PortId) : Checked.Statement (.atomic port) := rfl
theorem Sys2Proof.Laws.Checked.bind (port : PortId) : Checked.Statement (.bind port) := rfl
theorem Sys2Proof.Laws.Checked.unbind (port : PortId) : Checked.Statement (.unbind port) := rfl
theorem Sys2Proof.Laws.Checked.querySlot (port : PortId) : Checked.Statement (.querySlot port) := rfl
theorem Sys2Proof.Laws.Checked.holdOpen (port : PortId) : Checked.Statement (.holdOpen port) := rfl
theorem Sys2Proof.Laws.Checked.holdRelease (port : PortId) : Checked.Statement (.holdRelease port) := rfl
theorem Sys2Proof.Laws.Checked.fence (port : PortId) : Checked.Statement (.fence port) := rfl
theorem Sys2Proof.Laws.Checked.mgmt (port : PortId) : Checked.Statement (.mgmt port) := rfl
theorem Sys2Proof.Laws.Checked.fenceAnswer (port : PortId) : Checked.Statement (.fenceAnswer port) := rfl
theorem Sys2Proof.Laws.Checked.admissionReattempt (port : PortId) : Checked.Statement (.admissionReattempt port) := rfl
theorem Sys2Proof.Laws.Checked.bankDecision (bank : BankId) : Checked.Statement (.bankDecision bank) := rfl
theorem Sys2Proof.Laws.Checked.readService (bank : BankId) : Checked.Statement (.readService bank) := rfl
theorem Sys2Proof.Laws.Checked.writeService (bank : BankId) : Checked.Statement (.writeService bank) := rfl
theorem Sys2Proof.Laws.Checked.writeMaskedService (bank : BankId) : Checked.Statement (.writeMaskedService bank) := rfl
theorem Sys2Proof.Laws.Checked.atomicService (bank : BankId) : Checked.Statement (.atomicService bank) := rfl
theorem Sys2Proof.Laws.Checked.clearingService (bank : BankId) : Checked.Statement (.clearingService bank) := rfl
theorem Sys2Proof.Laws.Checked.refreshComplete (bank : BankId) : Checked.Statement (.refreshComplete bank) := rfl
theorem Sys2Proof.Laws.Checked.drainComplete : Checked.Statement .drainComplete := rfl
theorem Sys2Proof.Laws.Checked.spiStatus : Checked.Statement .spiStatus := rfl
theorem Sys2Proof.Laws.Checked.spiResult : Checked.Statement .spiResult := rfl
theorem Sys2Proof.Laws.Checked.spiSubmit (block : List Byte) : Checked.Statement (.spiSubmit block) := rfl
theorem Sys2Proof.Laws.Checked.spiBadOpcode (opcode : Byte) : Checked.Statement (.spiBadOpcode opcode) := by
  simp [Checked.Statement, Instr.wellFormed]
theorem Sys2Proof.Laws.Checked.regRead : Checked.Statement .regRead := rfl
theorem Sys2Proof.Laws.Checked.regWrite : Checked.Statement .regWrite := rfl
theorem Sys2Proof.Laws.Checked.portstatWrite : Checked.Statement .portstatWrite := rfl
theorem Sys2Proof.Laws.Checked.bankstatWrite : Checked.Statement .bankstatWrite := rfl
theorem Sys2Proof.Laws.Checked.logstatWrite : Checked.Statement .logstatWrite := rfl
theorem Sys2Proof.Laws.Checked.logclassWrite : Checked.Statement .logclassWrite := rfl
theorem Sys2Proof.Laws.Checked.alertmaskWrite : Checked.Statement .alertmaskWrite := rfl
theorem Sys2Proof.Laws.Checked.apertureCreate : Checked.Statement .apertureCreate := rfl
theorem Sys2Proof.Laws.Checked.apertureModify : Checked.Statement .apertureModify := rfl
theorem Sys2Proof.Laws.Checked.apertureRetire : Checked.Statement .apertureRetire := rfl
theorem Sys2Proof.Laws.Checked.apertureRead : Checked.Statement .apertureRead := rfl
theorem Sys2Proof.Laws.Checked.portConfig : Checked.Statement .portConfig := rfl
theorem Sys2Proof.Laws.Checked.portReset : Checked.Statement .portReset := rfl
theorem Sys2Proof.Laws.Checked.logPop : Checked.Statement .logPop := rfl
theorem Sys2Proof.Laws.Checked.logPeek : Checked.Statement .logPeek := rfl
theorem Sys2Proof.Laws.Checked.logClear : Checked.Statement .logClear := rfl
theorem Sys2Proof.Laws.Checked.profileStage : Checked.Statement .profileStage := rfl
theorem Sys2Proof.Laws.Checked.profileCommit : Checked.Statement .profileCommit := rfl
theorem Sys2Proof.Laws.Checked.quiesce : Checked.Statement .quiesce := rfl
theorem Sys2Proof.Laws.Checked.resume : Checked.Statement .resume := rfl
theorem Sys2Proof.Laws.Checked.datapathReset : Checked.Statement .datapathReset := rfl
theorem Sys2Proof.Laws.Checked.holdBreak : Checked.Statement .holdBreak := rfl
theorem Sys2Proof.Laws.Checked.injectEcc : Checked.Statement .injectEcc := rfl
theorem Sys2Proof.Laws.Checked.halt : Checked.Statement .halt := rfl
theorem Sys2Proof.Laws.Checked.invalidRequestKind (port : PortId) : Checked.Statement (.invalidRequestKind port) := rfl
theorem Sys2Proof.Laws.Checked.unknownCommandCode : Checked.Statement .unknownCommandCode := rfl
end

