-- ==== Sys2Proof/Laws/Settle.lean ====
section
/-! SUPPORT. Settling: a settled state settles to itself, a prompted event that is due next takes effect at once, and what a tick
and an execution are on a settled state. -/

namespace Sys2Proof.Machine

theorem settleWhile_of_none (go : State → Due → Bool) (fuel : Nat) {s : State} (h : s.nextDue = none) :
    settleWhile go fuel s = s := by
  cases fuel with
  | zero => rfl
  | succ fuel => simp [settleWhile, h]

theorem settleWhile_of_stop (go : State → Due → Bool) (fuel : Nat) {s : State} {due : Due} (h : s.nextDue = some due)
    (stop : go s due = false) : settleWhile go fuel s = s := by
  cases fuel with
  | zero => rfl
  | succ fuel => simp [settleWhile, h, stop]

/-- One event of settling: the fuel is never used up at once. -/
theorem settleFuel_pos (s : State) : ∃ fuel, s.settleFuel = fuel + 1 := ⟨256 * s.ticksDue.length + 255, by
  simp [State.settleFuel]; omega⟩

/-- A settled state settles to itself. -/
theorem settle_of_settled {s : State} (h : s.Settled) : s.settle = s := settleWhile_of_none _ _ h

/-- A settled state has nothing to do before a tick. -/
theorem settleTick_of_settled {s : State} (h : s.Settled) : s.settleTick = s := settleWhile_of_none _ _ h

/-- A settled state has nothing to do before a SUBMIT. -/
theorem settleSubmit_of_settled {s : State} (h : s.Settled) : s.settleSubmit = s := settleWhile_of_none _ _ h

/-- A prompted event that is due next takes effect. -/
theorem prompted_of_due {s : State} {due : Due} {which : State → Due → Bool} (h : s.nextDue = some due)
    (w : which s due = true) : s.prompted which = s.runDue due := by
  have stop : settleWhile (fun s due => !which s due) s.settleFuel s = s :=
    settleWhile_of_stop _ _ h (by simp [w])
  simp [State.prompted, stop, h, w]

/-- An invariant that every due event keeps is kept by settling. -/
theorem settleWhile_induction {P : State → Prop} (run : ∀ s due, s.nextDue = some due → P s → P (s.runDue due))
    (go : State → Due → Bool) : ∀ fuel s, P s → P (settleWhile go fuel s) := by
  intro fuel
  induction fuel with
  | zero => intro s h; exact h
  | succ fuel ih =>
    intro s h
    rw [settleWhile]
    split
    · exact h
    · next due e =>
      split
      · exact ih _ (run _ _ e h)
      · exact h

/-- An invariant that every due event keeps is kept by a prompted event. -/
theorem prompted_induction {P : State → Prop} (run : ∀ s due, s.nextDue = some due → P s → P (s.runDue due))
    (which : State → Due → Bool) (s : State) (h : P s) : P (s.prompted which) := by
  have before := settleWhile_induction run (fun s due => !which s due) s.settleFuel s h
  rw [State.prompted]
  split
  · next due e =>
    split
    · exact run _ _ e before
    · exact before
  · exact before

/-- No tick waits for a port whose ACK-owed flag is clear. -/
theorem ackOwedSet_of_none {s : State} (h : ∀ p, (s.link p).ackOwed = false) : s.ackOwedSet = 0 := by
  simp [State.ackOwedSet, allPorts, h]

theorem banksIdle_of_idle {s : State} (h : ∀ b, (s.bank b).state = .idle) : s.banksIdle = true := by
  simp only [State.banksIdle, Vector.all_toList, Vector.all_eq_true, decide_eq_true_eq]
  intro i hi
  exact h ⟨i, hi⟩

/-- Where a tick can take effect at once, no decision point is due. -/
theorem decisionPending_of_tickFree {s : State} (h : s.TickFree) : s.decisionPending = false := by
  obtain ⟨due, -, none, -, -⟩ := h
  have decide : s.decideNext = Option.none := by
    revert due
    simp only [State.Settled, State.nextDue]
    cases s.attemptPort <;> cases s.takePort <;> simp
    split
    · simp
    · split <;> simp
  simp only [State.decideNext, none, List.isEmpty_nil, Bool.true_or, if_true, List.find?_eq_none] at decide
  simp only [State.decisionPending, Vector.any_toList, Bool.eq_false_iff, ne_eq, Vector.any_eq_true, not_exists]
  intro i hi e
  exact decide ⟨i, hi⟩ (mem_allBanks _) e

/-- A tick that falls due can take effect at once. -/
theorem tickReady_of_tickFree {s : State} (h : s.TickFree) : s.fallDue.tickReady = true := by
  have pending := decisionPending_of_tickFree h
  obtain ⟨-, device, none, idle, owed⟩ := h
  have banks : s.fallDue.banksIdle = true := by
    rw [State.fallDue, if_neg device]; exact banksIdle_of_idle idle
  have decisions : s.fallDue.decisionPending = false := by rw [State.fallDue, if_neg device]; exact pending
  have due : s.fallDue.ticksDue = [0] := by
    rw [State.fallDue, if_neg device]; simp [none, ackOwedSet_of_none owed]
  simp [State.tickReady, due, banks, decisions]

/-- A tick takes effect at once where the part is free for it. -/
theorem tickEvent_of_tickFree {s : State} (h : s.TickFree) : s.tickEvent = s.fallDue.takeTick := by
  simp [State.tickEvent, settleTick_of_settled h.1, tickReady_of_tickFree h]

/-- A tick of a named kind takes effect at once where the part is free for it and the condition holds. -/
theorem tickWhen_of_tickFree {s : State} {condition : State → Bool} (h : s.TickFree) (c : condition s = true) :
    s.tickWhen condition = s.fallDue.takeTick := by
  simp [State.tickWhen, settleTick_of_settled h.1, tickReady_of_tickFree h, h.2.2.1, c]

/-- The head command executes where its block meets the condition of the row. -/
theorem execution_of_heads {s : State} {command : QueuedCommand} {which : List Byte → Bool} (h : s.Heads command)
    (w : which command.block = true) : s.execution which = s.execute command := by
  obtain ⟨settled, none, head⟩ := h
  simp [State.execution, settle_of_settled settled, State.executable, none, head, w]

/-- What an execution is, for a block that decodes to a permitted command. -/
theorem execute_of_executes {s : State} {command : QueuedCommand} {which : Command} (h : s.Executes command which) :
    s.execute command =
      (s.popped.commandEffect command.source command.block which).1.concluded command
        (s.popped.commandEffect command.source command.block which).2 := by
  obtain ⟨-, block, allowed⟩ := h
  simp [State.execute, State.runBlock, State.popped, block, allowed]

/-- A block that decodes to a command is one whose code names it. -/
theorem names_of_blockCommand {block : List Byte} {which : Command} (h : blockCommand block = some which) :
    names which block = true := by
  revert h
  simp only [blockCommand, names]
  cases namedCommand block with
  | none => simp
  | some command =>
    intro h
    by_cases e : block.length = blockLength command
    · simp [e] at h; simp [h]
    · simp [e] at h

/-- The taking of a body that passes the tag test, the gate and the format check is handled by its kind. -/
theorem takeHead_of_passes {s : State} {p : PortId} {body : List Byte} {rest : List (List Byte)} {kind : RequestKind}
    (h : s.Takes p body rest) (pass : s.Passes p body kind) : s.takeHead p = s.takeKind p (headerOf body) body := by
  obtain ⟨-, fifo, long⟩ := h
  obtain ⟨e, free, gated, ok⟩ := pass
  subst e
  have short : tooShort body = false := by simp [tooShort]; omega
  simp [State.takeHead, fifo, short, State.takeRequest, free, gated, ok]

end Sys2Proof.Machine
end

