-- ==== Sys2Proof/Tests/Slice0.lean ====
section
/-! SUPPORT. Tests: ill-formed commands are refused, the worked examples of the spec come out, and for every statement with hypotheses a
concrete state and operands meet them (the theorems named test_witness). -/

namespace Sys2Proof.Tests

open Sys2Proof Sys2Proof.Machine

-- one test is checked after the other, so that few threads wait at once
set_option Elab.async false

/-! ### Small states -/

/-- The part in READY with everything else as after RESET_N. -/
def ready : State := { State.reset with device := .ready }

/-- READY with the link of P0 ACTIVE and changed. -/
def linked (change : Link → Link) : State := ready.modLink 0 fun link => change { link with state := .active }

/-- READY with port P0 changed. -/
def onPort (change : Port → Port) : State := ready.modPort 0 change

/-- A request body. -/
def request (kind tag slot code offset specific : Nat) (payload : List Byte) : List Byte :=
  leBytes 8 (kind * 2 ^ 60 + tag * 2 ^ 55 + slot * 2 ^ 52 + code * 2 ^ 50 + offset * 2 ^ 24 + specific) ++ payload

/-- READY with one body at the head of P0. -/
def taking (body : List Byte) : State := onPort fun port => { port with fifo := [body] }

/-- A command block: its code, its argument bytes and zeros to its length. -/
def block (code : Nat) (arguments : List Byte) : List Byte := [BitVec.ofNat 8 code, 0, 0, 0] ++ arguments

/-- A state with one command from SPI at the head of the management queue. -/
def queued (s : State) (bytes : List Byte) : State :=
  s.modMgmt fun m => { m with queue := [{ source := .spi, block := bytes, placed := 0 }], spiSlot := .executing }

/-- The command of `queued`. -/
def spiCommand (bytes : List Byte) : QueuedCommand := { source := .spi, block := bytes, placed := 0 }

/-- Every right. -/
def allRights : Rights := { read := true, write := true, atomic := true }

/-- A copy of aperture 1, generation 0: units 64 to 67. -/
def copyOf (rights : Rights) : SlotCopy :=
  { handle := 0x40, effectiveTier := 0, base := 64, limit := 3, granularity := .unit, rights := rights }

/-- READY with slot S0 of P0 in this state and one body at the head of P0. -/
def takingThrough (slot : Slot) (body : List Byte) : State :=
  onPort fun port => { port with fifo := [body], slots := port.slots.set 0 slot }

/-- A hold on units 64 to 67. -/
def holdBy (owner : PortId) (remaining : Nat) : Hold :=
  { owner := owner, aperture := 1, generation := 0, first := 64, span := 4, remaining := remaining }

/-- A queue entry of P0 with tag 3. -/
def entryOf (op : EntryOp) (unit : UnitAddr) (length : Nat) : Entry :=
  { port := 0, tag := 3, op := op, unit := unit, length := length, aperture := 1, position := 0, parkedOn := none,
    discarded := false, orphaned := false }

/-- READY with bank B0 serving this entry. -/
def serving (entry : Entry) : State :=
  (ready.modBank 0 fun bank => { bank with queue := [entry], state := .serving (.entry 0 true false) }).setTag 0 3 (some .bank)

/-- The state after a command, the same state if it is not a next one. -/
def after (i : Instr) (s : State) : State := match exec i s with | .next t => t | _ => s

/-! ### Commands that cannot be sent -/

theorem test_malformed_refused : Instr.wellFormed (.malformedParcel 0 (encodeParcel { kind := .ack })) = false := by decide +kernel
theorem test_short_data_refused : Instr.wellFormed (.receiveData 0 0 0 []) = false := by decide +kernel
theorem test_long_data_refused : Instr.wellFormed (.receiveData 0 0 0 (List.replicate 129 0)) = false := by decide +kernel
theorem test_clean_disturbance_refused : Instr.wellFormed (.memoryDisturbance 5 .clean) = false := by decide +kernel
theorem test_known_opcode_refused : Instr.wellFormed (.spiBadOpcode 3) = false := by decide +kernel
theorem test_no_bits : decodeTableWord 32 0xFFFFFFFF = none := by decide +kernel

/-! ### Values that the spec gives -/

/-- The check value of the CRC of R28. -/
theorem test_crc : crc [0x31, 0x32, 0x33, 0x34, 0x35, 0x36, 0x37, 0x38, 0x39] = 0xCBF43926#32 := by decide +kernel
/-- Table 2-1: a TRAIN_REQ with fresh 1 has header 40002000H, sent in little-endian order. -/
theorem test_header : leBytes 4 (headerWord { kind := .trainReq, fresh := true }) = [0x00, 0x20, 0x00, 0x40] := by decide +kernel
/-- R104: bank B0 holds units 8000H to 8003H under INTERLEAVE (the example of chapter 7). -/
theorem test_bank : bankOf .interleave 0x8000 = 0 ∧ bankOf .interleave 0x8003 = 0 ∧ bankOf .interleave 0x8004 = 1 := by
  decide +kernel
/-- The example of chapter 4: a handle of index 30, generation 0 and tier 2. -/
theorem test_handle : handleIndex (handleOf 30 0 2) = 30 ∧ handleTier (handleOf 30 0 2) = 2 ∧ handleOf 0 0 3 = 0x0003#16 := by
  decide +kernel
/-- The example of chapter 11: DSTATE reads 00000015H in DRAINING(PROFILE) and 00000025H in DRAINING(QUIESCE). -/
theorem test_dstate : { ready with device := .draining (.profile defaultProfile) }.readRegister .dstate = 0x15 ∧
    { ready with device := .draining .quiesce }.readRegister .dstate = 0x25 := by decide +kernel
/-- The example of chapter 11: two entries, owed 2, owed-max 2 and two corrected errors read 00020222H. -/
theorem test_bankstat : (ready.modBank 3 fun bank =>
    { bank with queue := [entryOf .read 0 1, entryOf .read 1 1], owed := 2, owedMax := 2, corrected := 2 }).readRegister
      (.bankStat 3) = 0x00020222 := by decide +kernel
/-- R28: what is sent parses back, and one flipped bit makes it malformed. -/
theorem test_flip : parseParcel (encodeParcel { kind := .nak, ack := 40 }) = some { kind := .nak, ack := 40 } ∧
    malformed ((encodeParcel { kind := .nak, ack := 40 }).modify 1 (· ^^^ 1)) = true := by decide +kernel

/-! ### One step each, from the examples of the spec -/

/-- Section 2.11: with the receive sequence at 40, DATA 41 is out of order and a pending NAK is not repeated. -/
theorem test_out_of_order : ((after (.receiveData 0 41 0 [1])
    (linked fun link => { link with recvSeq := 40, nakPending := true })).link 0).nakWaiting = false := by decide +kernel
/-- Section 2.11: the expected parcel is accepted and clears the NAK-pending flag. -/
theorem test_expected : let t := after (.receiveData 0 40 0 [1]) (linked fun link => { link with recvSeq := 40, nakPending := true })
    (t.link 0).recvSeq = 41 ∧ (t.link 0).nakPending = false ∧ (t.port 0).fifo = [[1]] := by decide +kernel
/-- Section 2.12: the fifth replay of one oldest parcel gives way to retraining. -/
theorem test_fifth_replay : ((after (.ackTimeout 0) (linked fun link =>
    { link with replay := [{ seq := 10, body := [1] }], sendSeq := 11, replayAttempts := 4, ackTimer := 15 })).link 0).state =
      .retrain := by decide +kernel
/-- The example of chapter 5: rights are checked before bounds. -/
theorem test_rights_first : (after (.atomic 0) (takingThrough (.bound (copyOf { allRights with atomic := false }))
    (request 4 9 0 0 0x1010 0 (List.replicate 8 0)))).faults.log.map (fun r => r.fault.code) = [.deniedRights] := by decide +kernel
/-- The example of chapter 5: a READ of four units at 0FF0H is BAD_ALIGN. -/
theorem test_bad_align : (after (.read 0) (takingThrough (.bound { copyOf allRights with limit := 255 })
    (request 1 9 0 2 0xFF0 0 []))).faults.log.map (fun r => r.fault.code) = [.badAlign] := by decide +kernel
/-- The example of chapter 5: BIND with the handle 0003H makes the slot NULL_BOUND. -/
theorem test_null_bind : (after (.bind 0) (taking (request 5 0 7 0 0 3 []))).slot 0 7 = .nullBound := by decide +kernel
/-- The example of chapter 8: an owed count of 3 with L equal to 2 forces a refresh before a service. -/
theorem test_forced_refresh : ((after (.bankDecision 3) (({ ready with active := { defaultProfile with postponeLimit := 2 } }).modBank 3
    fun bank => { bank with queue := [entryOf .read 0 1], owed := 3, decisionDue := true })).bank 3).state = .refreshing := by decide +kernel
/-- R124: COMPARE_SWAP stores the second operand where the old value equals the first. -/
theorem test_compare_swap : atomicResult .compareSwap 7 7 9 = (9, true) ∧ atomicResult .compareSwap 7 8 9 = (7, false) ∧
    atomicResult .fetchAdd 0xFFFFFFFFFFFFFFFF#64 1 0 = (0, false) := by decide +kernel

/-- R1, R14: in DRAINING(PROFILE) with nothing left to drain and two bodies queued, the first taking answers RETRY and completes
the drain, so that the second body is taken in READY, where slot S0 is EMPTY. -/
theorem test_drain_after_taking : let body (tag : Nat) := request 1 tag 0 0 0 0 []
    let s := { onPort fun port => { port with fifo := [body 1, body 2] } with device := .draining (.profile defaultProfile) }
    let t := after (.read 0) s
    t.device = .ready ∧ (t.port 0).fifo = [body 2] ∧ (t.port 0).egress.map (fun r => r.response.status) = [.retry] ∧
      ((after (.read 0) t).port 0).egress.map (fun r => r.response.status) = [.retry, .unbound] := by decide +kernel
/-- R35: the tick that fails the third attempt of a retraining is counted; R45: with no parcel kept the ack timer is 0. -/
theorem test_failing_tick : let t := after (.trainingTimeout 0) (linked fun link =>
      { link with state := .retrain, trainAttempts := 3, trainTimer := 99, ackTimer := 7, replay := [{ seq := 5, body := [1] }] })
    (t.link 0).state = .failed ∧ (t.link 0).trainTimer = 100 ∧ (t.link 0).ackTimer = 0 := by decide +kernel
/-- R53, Table 3-3: the boundary values of the length code, the op and the body length. -/
theorem test_format : let ok (body : List Byte) := formatOk (headerOf body) body.length
    let zeros (n : Nat) : List Byte := List.replicate n 0
    (List.range 4).map (fun code => ok (request 1 9 0 code 0 0 [])) = [true, true, true, false] ∧
    (List.range 8).map (fun op => ok (request 4 9 0 0 0 op (zeros (if op = 2 then 16 else 8)))) =
      [true, true, true, true, true, false, false, false] ∧
    [0, 1, 120, 121].map (fun n => ok (request 11 9 0 0 0 0 (zeros n))) = [false, true, true, false] := by decide +kernel

/-- Table 9-1, computed by hand: sequence 0102H, HELD (HOLD 6) of P1, tag 9, slot S2, aperture 123H and unit 345678H. -/
theorem test_record_block : recordBlock
    { sequence := 0x0102, stamp := 0x0A0B0C0D, repeats := 3
      fault := { code := .held, port := some 1, tag := some 9, slot := some 2, aperture := some 0x123, unit := some 0x345678 } } =
    [0x02, 0x01, 0xFD, 0x06, 0x09, 0x09, 0x23, 0x01, 0x78, 0x56, 0x34, 0x03, 0x0D, 0x0C, 0x0B, 0x0A] := by decide +kernel
/-- The example of chapter 9, in small: an event for a full queue sets the events-lost flag and offers EVENT_LOST. -/
theorem test_event_lost : let s := linked id |>.modPort 0 fun port =>
      { port with events := List.replicate 8 { placed := 0, event := .logAttention } }
    let t := s.raise 0 (.apertureFreed 5)
    (t.port 0).events.length = 8 ∧ (t.port 0).eventsLost = true ∧ t.faults.log.map (fun r => r.fault.code) = [.eventLost] := by
  decide +kernel

/-! ### Witnesses of the hypotheses of the statements -/

/-- READY with hold 0 about to expire and hold 1 not. -/
def holding : State := (ready.setHold 0 (some (holdBy 0 1))).setHold 1 (some { holdBy 1 2 with first := 68 })

theorem test_witness_tickTakesEffect : holding.TickFree ∧ holding.hold 0 = some (holdBy 0 1) ∧ holding.hold 2 = none ∧
    holding.hold 1 = some { holdBy 1 2 with first := 68 } ∧ ∀ p, (holding.link p).state ≠ .retrain := by decide +kernel

/-- READY with bank B0 REFRESHING. -/
def refreshing : State := ready.modBank 0 fun bank => { bank with state := .refreshing, owed := 1 }

theorem test_witness_tickWaitsOrIsHeld :
    (refreshing.Settled ∧ refreshing.device ≠ .reset ∧ ∃ b, (refreshing.bank b).state ≠ .idle) ∧
    ((linked fun link => { link with ackOwed := true }).Settled ∧
      ((linked fun link => { link with ackOwed := true }).link 0).ackOwed = true) ∧
    ({ refreshing with ticksDue := [0] }.Settled ∧ { refreshing with ticksDue := [0] }.ticksDue ≠ []) ∧
    State.reset.Settled ∧ State.reset.device = .reset := by decide +kernel

/-- CALIBRATING one tick before its end. -/
def calibrating : State := { State.reset with device := .calibrating, tickCount := 149 }

theorem test_witness_calibrationEndsAndObligationsFall :
    (calibrating.TickFree ∧ calibrating.ParitySettled ∧ calibrating.device = .calibrating ∧ calibrating.tickCount = 149 ∧
      ∀ p, (calibrating.link p).state = .down) ∧
    (ready.modBank 7 fun bank => { bank with sinceRefresh := 3 }).TickFree ∧
    (ready.modBank 7 fun bank => { bank with sinceRefresh := 3 }).active.refreshInterval ≤
      ((ready.modBank 7 fun bank => { bank with sinceRefresh := 3 }).bank 7).sinceRefresh + 1 := by decide +kernel

theorem test_witness_holdExpires : holding.TickFree ∧ holding.hold 0 = some (holdBy 0 1) ∧ (holdBy 0 1).remaining = 1 := by
  decide +kernel

/-- READY with an ACTIVE link whose ack timer is about to reach 16 after this many replays. -/
def timing (attempts : Nat) : State := linked fun link =>
  { link with replay := [{ seq := 10, body := [1] }], sendSeq := 11, replayAttempts := attempts, ackTimer := 15 }

/-- READY with a link in this state whose training timer is about to reach 100 in this attempt. -/
def training (state : LinkState) (attempts : Nat) : State :=
  linked fun link => { link with state := state, trainAttempts := attempts, trainTimer := 99 }

theorem test_witness_linkTimersReachTheirLimits :
    (∀ attempts ∈ [3, 4], (timing attempts).TickFree ∧ (timing attempts).device.isDraining = false ∧
      ((timing attempts).link 0).state = .active ∧ ((timing attempts).link 0).replay ≠ [] ∧
      ((timing attempts).link 0).ackTimer = 15) ∧
    (∀ attempts ∈ [2, 3], (training .retrain attempts).TickFree ∧ ((training .retrain attempts).link 0).state = .retrain ∧
      ((training .retrain attempts).link 0).trainTimer = 99 ∧
      ((training .retrain attempts).link 0).trainAttempts = attempts ∧
      (training .retrain attempts).device.isDraining = false) ∧
    (training .training 0).TickFree ∧ ((training .training 0).link 0).state = .training ∧
    ((training .training 0).link 0).trainTimer = 99 := by decide +kernel

theorem test_witness_disturbancesStrikeOnePlace : ready.Settled ∧ ready.MemoryWf ∧ Health.correctable ≠ .clean ∧
    ready.device ≠ .reset ∧ (1023 : ApIndex) ≠ 0 := by
  refine ⟨by decide +kernel, ⟨by decide +kernel, by decide +kernel⟩, by decide, by decide, by decide⟩

theorem test_witness_parsedFrameIsTheParcelSent : bodySuits .data 1 = true ∧ bodySuits .data 128 = true ∧
    bodySuits .trainAck 0 = true := by decide

theorem test_witness_malformedParcelCountedAndNaked : (linked id).Settled ∧ malformed (List.replicate 8 0) = true := by
  decide +kernel

/-- An ACTIVE link with DATA 126 and 127 kept, after this many replays. -/
def kept (attempts : Nat) : State := linked fun link =>
  { link with replay := [{ seq := 126, body := [1] }, { seq := 127, body := [2] }], sendSeq := 0, replayAttempts := attempts }

theorem test_witness_ackAndNakAcknowledgeAndReplay : (kept 3).Settled ∧ (kept 4).Settled ∧ ready.Settled ∧
    ((kept 3).link 0).state = .active ∧ (ready.link 0).state ≠ .active ∧
    -- the acks that remove nothing, both parcels, and none since they lie one past the window
    distance 126 126 = 0 ∧ distance 126 0 ≤ distance 126 ((kept 3).link 0).sendSeq ∧
    distance 126 ((kept 3).link 0).sendSeq < distance 126 1 ∧
    ackInWindow ((kept 3).link 0) 1 = false ∧ ackInWindow ((kept 3).link 0) 0 = true ∧
    (removeAcked ((kept 3).link 0) 0).replay = [] ∧
    ackInWindow ((kept 3).link 0) 126 = true ∧ (removeAcked ((kept 3).link 0) 126).replay ≠ [] ∧
    (removeAcked ((kept 3).link 0) 126).replayAttempts < 4 ∧ ackInWindow ((kept 4).link 0) 126 = true ∧
    (removeAcked ((kept 4).link 0) 126).replay ≠ [] ∧ 4 ≤ (removeAcked ((kept 4).link 0) 126).replayAttempts := by
  decide +kernel

/-- An ACTIVE link with this many bodies in the FIFO of P0, where the head waits for a FENCE. -/
def filled (count : Nat) : State :=
  (linked id).modPort 0 fun port => { port with fifo := List.replicate count (request 10 0 0 0 0 0 []), head := .waitingFence }

theorem test_witness_dataParcelClassedBySequence :
    (filled 31).Settled ∧ ((filled 31).port 0).fifo.length < 32 ∧ (filled 32).Settled ∧
    32 ≤ ((filled 32).port 0).fifo.length ∧ ((filled 31).link 0).state = .active ∧
    distance 0 ((filled 31).link 0).recvSeq = 0 ∧ distance 127 ((filled 31).link 0).recvSeq = 1 ∧
    distance 96 ((filled 31).link 0).recvSeq = 32 ∧ distance 95 ((filled 31).link 0).recvSeq = 33 ∧
    (ready.link 0).state ≠ .active ∧ ready.Settled := by decide +kernel

/-- A link in this state with the handshake flags of its training. -/
def handshake (state : LinkState) (answered received : Bool) : State :=
  linked fun link => { link with state := state, requestAnswered := answered, answerReceived := received }

theorem test_witness_freshTrainRequestTrainsOrResets :
    (handshake .training false false).Settled ∧ (handshake .training false true).Settled ∧
    ((handshake .training false true).link 0).state = .training ∧
    ((handshake .training false true).link 0).answerReceived = true ∧
    ((handshake .training false false).link 0).answerReceived = false ∧
    (ready.link 0).state = .down ∧ ready.Settled ∧
    ∀ state ∈ [LinkState.active, .retrain], (handshake state false false).Settled ∧
      ((handshake state false false).link 0).state = state ∧ (handshake state false false).device.isDraining = false := by
  decide +kernel

theorem test_witness_retrainRequestAnswered :
    (∀ state ∈ [LinkState.active, .retrain, .training, .down, .failed], (handshake state false false).Settled ∧
      ((handshake state false false).link 0).state = state ∧
      ((handshake state false false).link 0).answerReceived = false) ∧
    (handshake .retrain false true).Settled ∧ ((handshake .retrain false true).link 0).answerReceived = true := by
  decide +kernel

theorem test_witness_trainAckCompletesTraining :
    (∀ state ∈ [LinkState.training, .retrain], ∀ answered ∈ [true, false], (handshake state answered false).Settled ∧
      ((handshake state answered false).link 0).state = state ∧
      ((handshake state answered false).link 0).requestAnswered = answered) ∧
    ackInWindow ((handshake .retrain true false).link 0) 0 = true ∧
    ∀ state ∈ [LinkState.active, .down, .failed], (handshake state false false).Settled ∧
      ((handshake state false false).link 0).state = state := by decide +kernel

/-- An ACTIVE link with DATA 5 kept and the retransmission point on it. -/
def resending : State := linked fun link =>
  { link with replay := [{ seq := 5, body := [1] }], sendSeq := 6, retransmit := some 5, ackOwed := true }

theorem test_witness_sendsByPrecedence :
    (∀ state ∈ [LinkState.training, .retrain, .active], ∀ ack ∈ [true, false],
      (linked fun link => { link with state := state, trainAckWaiting := ack, trainReqWaiting := true }).Settled ∧
      ((linked fun link => { link with state := state, trainAckWaiting := ack, trainReqWaiting := true }).link 0).state =
        state) ∧
    ((linked fun link => { link with nakWaiting := true }).Settled ∧
      ((linked fun link => { link with nakWaiting := true }).link 0).nakWaiting = true ∧
      ((linked fun link => { link with nakWaiting := true }).link 0).trainAckWaiting = false) ∧
    ((linked fun link => { link with ackOwed := true }).Settled ∧
      newDataReady ((linked fun link => { link with ackOwed := true }).port 0) = false ∧
      ((linked fun link => { link with ackOwed := true }).link 0).retransmit = none) ∧
    resending.Settled ∧ (resending.link 0).state = .active ∧ (resending.link 0).retransmit = some 5 ∧
    (resending.link 0).replay.find? (fun sent => sent.seq = 5) = some { seq := 5, body := [1] } := by decide +kernel

/-- An ACTIVE link with 31 parcels kept, a response placed at 4 and an event placed at this place. -/
def sending (place : Nat) : State :=
  (linked fun link => { link with replay := List.replicate 31 { seq := 5, body := [1] } }).modPort 0 fun port =>
    { port with
      egress := [{ placed := 4, response := { tag := 1, status := .ok } }]
      events := [{ placed := place, event := .logAttention }] }

theorem test_witness_sendsByPrecedence_waiting :
    ((sending 3).Settled ∧ ((sending 3).link 0).state = .active ∧ newDataReady ((sending 3).port 0) = true) ∧
    ∀ state ∈ [LinkState.down, .failed], (handshake state false false).Settled ∧
      ((handshake state false false).link 0).state = state := by decide +kernel

theorem test_witness_newDataSendsTheBodyPlacedFirst :
    (∀ place ∈ [3, 5], (sending place).Settled ∧ ((sending place).link 0).state = .active ∧
      ((sending place).link 0).trainAckWaiting = false ∧ ((sending place).link 0).nakWaiting = false ∧
      ((sending place).link 0).retransmit = none ∧ ((sending place).link 0).replay.length < 32) ∧
    ((sending 5).port 0).egress = [{ placed := 4, response := { tag := 1, status := .ok } }] ∧
    (∀ event ∈ ((sending 5).port 0).events, 4 ≤ event.placed) ∧
    ((sending 3).port 0).events = [{ placed := 3, event := .logAttention }] ∧
    (∀ response ∈ ((sending 3).port 0).egress.head?, 3 < response.placed) := by decide +kernel

theorem test_witness_shortBodyIsRemoved : (taking (List.replicate 7 0)).nextDue = some (.take 0) ∧
    ((taking (List.replicate 7 0)).port 0).fifo = [List.replicate 7 0] := by decide +kernel

theorem test_witness_reusedTagIsDiscarded :
    ((taking (request 1 9 0 0 0 0 [])).setTag 0 9 (some .bank)).Takes 0 (request 1 9 0 0 0 0 []) [] ∧
    ((taking (request 1 9 0 0 0 0 [])).setTag 0 9 (some .bank)).tagHolder 0
      (headerOf (request 1 9 0 0 0 0 [])).tag ≠ none := by decide +kernel

theorem test_witness_gateAnswersOutsideReady : ∀ device ∈ [DevState.draining .quiesce, .halted],
    { taking (request 1 9 0 0 0 0 []) with
      device := device, mgmt := { State.reset.mgmt with queue := [spiCommand (block 15 [])] },
      banks := State.reset.banks.set 0 { resetBank with state := .refreshing } }.Takes 0 (request 1 9 0 0 0 0 []) [] ∧
    (headerOf (request 1 9 0 0 0 0 [])).kind ≠ .mgmt := by decide +kernel

theorem test_witness_badFormatIsAnswered :
    (∀ body ∈ [request 1 9 0 3 0 0 [], request 2 9 0 0 0 0 [1], request 0 9 0 0 0 0 [], request 12 9 0 0 0 0 []],
      (taking body).Takes 0 body [] ∧ (taking body).tagHolder 0 (headerOf body).tag = none ∧
      gate (taking body).device (headerOf body).kind = none ∧ formatOk (headerOf body) body.length = false) ∧
    numberAt (request 0 9 0 0 0 0 []) 0 8 / 2 ^ 60 = 0 ∧ 12 ≤ numberAt (request 12 9 0 0 0 0 []) 0 8 / 2 ^ 60 := by
  decide +kernel

/-- A MGMT request with no command block fails the format check in DRAINING too. -/
theorem test_witness_badFormatIsAnswered_draining :
    let s := { taking (request 11 9 0 0 0 0 []) with device := .draining .quiesce }
    s.Takes 0 (request 11 9 0 0 0 0 []) [] ∧ gate s.device .mgmt = none ∧
    formatOk (headerOf (request 11 9 0 0 0 0 [])) 8 = false := by decide +kernel

theorem test_witness_answerFreesTagAndQueuesResponse : (ready.port 0).egress.length < 32 ∧
    32 ≤ ((onPort fun port => { port with
      egress := List.replicate 32 { placed := 0, response := { tag := 1, status := .ok } } }).port 0).egress.length := by
  decide +kernel

/-- READY with this many records in the log, the newest an EVENT_LOST of P0, in this overflow episode. -/
def logging (count : Nat) (episode : Bool) : State := (linked id).modFaults fun u =>
  { u with
    log := List.replicate count { sequence := 0, fault := { code := .eventLost, port := some 0 }, stamp := 0, repeats := 1 }
    episode := episode, attention := episode }

theorem test_witness_answerFreesTagAndQueuesResponse_offers :
    (∀ count ∈ [1, 63, 64], ∀ episode ∈ [true, false], let u := (logging count episode).faults
      u.classMask.getLsbD (classValue (faultClass .eventLost) - 1) = true ∧ u.log.length = count ∧ u.episode = episode ∧
      u.log.getLast? = some { sequence := 0, fault := { code := .eventLost, port := some 0 }, stamp := 0, repeats := 1 }) ∧
    ({ ready.faults with classMask := 0 }).classMask.getLsbD (classValue (faultClass .eventLost) - 1) = false ∧
    ((logging 64 true).modFaults fun u => { u with attention := false }).faults.condition = true ∧
    (logging 1 false).faults.condition = false ∧ (ready.link 0).state ∈ [LinkState.down, .failed] ∧
    ((linked id).link 0).state ∉ [LinkState.down, .failed] ∧ ((linked id).port 0).events.length < 8 := by decide +kernel

/-- The data requests of the witnesses: the last place of the window of `copyOf` that each kind may name. -/
def dataRequests : List (RequestKind × List Byte) :=
  [(.read, request 1 9 0 2 0 0 []), (.read, request 1 9 0 0 0x30 0 []),
   (.write, request 2 9 0 1 0x20 0 (List.replicate 32 7)), (.writeMasked, request 3 9 0 0 0x30 0 (List.replicate 18 7)),
   (.atomic, request 4 9 0 0 0x38 0 (List.replicate 8 7))]

theorem test_witness_dataRequestIsAdmitted : ∀ row ∈ dataRequests,
    let s := takingThrough (.bound (copyOf allRights)) row.2
    let header := headerOf row.2
    s.Takes 0 row.2 [] ∧ s.Passes 0 row.2 row.1 ∧ s.slot 0 header.slot = .bound (copyOf allRights) ∧
    rightHeld row.1 allRights = true ∧ header.offset % (if row.1 = .atomic then 8 else 16 * transferUnits header) = 0 ∧
    header.offset / 16 + transferUnits header ≤ 3 + 1 ∧ (∀ h, s.hold h = none) ∧ ∀ b, (s.bank b).queue.length < 8 := by
  decide +kernel

theorem test_witness_dataRequestIsRefusedInOrder :
    (∀ slot ∈ [Slot.empty, .nullBound, .stale (copyOf allRights), .bound (copyOf noRights), .bound (copyOf allRights)],
      ∀ row ∈ dataRequests, (takingThrough slot row.2).Takes 0 row.2 [] ∧ (takingThrough slot row.2).Passes 0 row.2 row.1) ∧
    rightHeld .read noRights = false ∧
    (let body := request 1 9 0 2 0x10 0 []
     (takingThrough (.bound (copyOf allRights)) body).Takes 0 body [] ∧
      (headerOf body).offset % (16 * transferUnits (headerOf body)) ≠ 0) ∧
    (let body := request 1 9 0 2 0x40 0 []
     (takingThrough (.bound (copyOf allRights)) body).Takes 0 body [] ∧
      (headerOf body).offset % (16 * transferUnits (headerOf body)) = 0 ∧
      3 + 1 < (headerOf body).offset / 16 + transferUnits (headerOf body)) := by decide +kernel

/-- The entry queue of every bank holds eight entries. -/
def crowded (s : State) : State := s.mapBanks fun bank => { bank with queue := List.replicate 8 (entryOf .read 0 1) }

/-- A READ that waits for space and has a new attempt due. -/
def waiting : State := onPort fun port =>
  { port with
    fifo := [request 1 9 0 2 0 0 []], head := .waitingSpace, attemptDue := true, tags := port.tags.set 9 (some .head)
    slots := port.slots.set 0 (.bound (copyOf allRights)) }

theorem test_witness_dataRequestWaitsAndTriesAgain :
    (let s := crowded (takingThrough (.bound (copyOf allRights)) (request 1 9 0 2 0 0 []))
     let transfer : Transfer := { unit := 64, length := 4, aperture := 1 }
     s.Takes 0 (request 1 9 0 2 0 0 []) [] ∧ s.Passes 0 (request 1 9 0 2 0 0 []) .read ∧
      translate (s.slot 0 0) (headerOf (request 1 9 0 2 0 0 [])) = .ok transfer ∧ s.holdTest 0 .read transfer = none ∧
      8 ≤ (s.bank (s.targetBank transfer)).queue.length ∧ (s.port 0).head = .none) ∧
    (let transfer : Transfer := { unit := 64, length := 4, aperture := 1 }
     waiting.nextDue = some (.attempt 0) ∧ (waiting.port 0).fifo = [request 1 9 0 2 0 0 []] ∧
      translate (waiting.slot 0 0) (headerOf (request 1 9 0 2 0 0 [])) = .ok transfer ∧
      waiting.holdTest 0 .read transfer = none ∧ (waiting.bank (waiting.targetBank transfer)).queue.length < 8) := by
  decide +kernel

/-- A WRITE of P0 to a range that hold 2 of P1 covers, with this many entries of bank B0 parked. -/
def foreign (parked : Nat) : State :=
  ((takingThrough (.bound (copyOf allRights)) (request 2 9 0 0 0 0 (List.replicate 16 7))).setHold 2 (some (holdBy 1 5))).modBank 0
    fun bank => { bank with parked := parked }

theorem test_witness_foreignHoldParksOrRefuses :
    (∀ parked ∈ [5, 6], (foreign parked).Takes 0 (request 2 9 0 0 0 0 (List.replicate 16 7)) [] ∧
      (foreign parked).Passes 0 (request 2 9 0 0 0 0 (List.replicate 16 7)) .write ∧
      translate ((foreign parked).slot 0 0) (headerOf (request 2 9 0 0 0 0 (List.replicate 16 7))) =
        .ok { unit := 64, length := 1, aperture := 1 } ∧
      (foreign parked).hold 2 = some (holdBy 1 5) ∧ excludes 0 64 1 (holdBy 1 5) = true ∧
      (∀ g < 2, (foreign parked).hold g = none) ∧
      (foreign parked).targetBank { unit := 64, length := 1, aperture := 1 } = 0 ∧
      ((foreign parked).bank 0).parked = parked ∧ ((foreign parked).bank 0).queue.length < 8) := by decide +kernel

theorem test_witness_foreignHoldParksOrRefuses_full :
    let s := crowded (foreign 5)
    s.Takes 0 (request 2 9 0 0 0 0 (List.replicate 16 7)) [] ∧ (s.bank 0).parked = 5 ∧ 8 ≤ (s.bank 0).queue.length := by
  decide +kernel

/-- A BIND of slot S0 of P0 by the handle of index 1, generation 0, tier 3, with that entry of the table changed. -/
def binding (change : ApEntry → ApEntry) : State :=
  (taking (request 5 9 0 0 0 0x43 [])).modEntry 1 fun entry =>
    change { entry with state := .live, base := 64, limit := 3, rights := allRights, accessTier := 3, portMask := 1 }

theorem test_witness_bindFillsTheSlotOrRefuses :
    ((taking (request 5 9 0 0 0 3 [])).Takes 0 (request 5 9 0 0 0 3 []) [] ∧
      handleIndex (bindHandle (headerOf (request 5 9 0 0 0 3 []))) = 0) ∧
    (∀ change ∈ [(fun entry => entry : ApEntry → ApEntry), (fun entry => { entry with state := .retiring }),
        (fun entry => { entry with portMask := 14 }), (fun entry => { entry with accessTier := 2 }),
        (fun entry => { entry with parityBad := true })],
      (binding change).Takes 0 (request 5 9 0 0 0 0x43 []) [] ∧ (binding change).Passes 0 (request 5 9 0 0 0 0x43 []) .bind) ∧
    handleIndex (bindHandle (headerOf (request 5 9 0 0 0 0x43 []))) = 1 ∧ ((binding id).entry 1).parityBad = false ∧
    (binding id).device = .ready := by decide +kernel

theorem test_witness_unbindEmptiesAndQueryReports :
    (taking (request 6 9 0 0 0 0 [])).Takes 0 (request 6 9 0 0 0 0 []) [] ∧
    (taking (request 6 9 0 0 0 0 [])).Passes 0 (request 6 9 0 0 0 0 []) .unbind ∧
    ∀ slot ∈ [Slot.empty, .nullBound, .stale (copyOf allRights), .bound (copyOf allRights)],
      (takingThrough slot (request 7 9 0 0 0 0 [])).Takes 0 (request 7 9 0 0 0 0 []) [] ∧
      (takingThrough slot (request 7 9 0 0 0 0 [])).Passes 0 (request 7 9 0 0 0 0 []) .querySlot := by decide +kernel

/-- HOLD_OPEN of P0 over the whole window of `copyOf`, and HOLD_RELEASE of hold 0. -/
def openBody : List Byte := request 8 9 0 0 0 (4 + 128 * 0) []
def releaseBody : List Byte := request 9 9 0 0 0 0 []

theorem test_witness_holdOpenGrantsAndReleaseEnds :
    (let s := takingThrough (.bound (copyOf allRights)) openBody
     s.Takes 0 openBody [] ∧ s.Passes 0 openBody .holdOpen ∧ s.slot 0 0 = .bound (copyOf allRights) ∧
      (headerOf openBody).offset % 16 = 0 ∧ (headerOf openBody).specific % 128 = 4 ∧ s.activeHolds < 16 ∧
      s.ownedHolds 0 < 4 ∧ s.holdConflicts 0 64 4 = false ∧ s.hold 0 = none) ∧
    (∀ owner ∈ [(0 : PortId), 1],
      let s := (taking releaseBody).setHold 0 (some (holdBy owner 5))
      s.Takes 0 releaseBody [] ∧ s.Passes 0 releaseBody .holdRelease ∧ s.hold 0 = some (holdBy owner 5)) := by
  decide +kernel

/-- HOLD_OPEN at an odd place, with spans of 0, 65 and 5 units, and one that meets every check. -/
def openBodies : List (List Byte) :=
  [request 8 9 0 0 8 4 [], request 8 9 0 0 0 0 [], request 8 9 0 0 0 65 [], request 8 9 0 0 0 5 [], openBody]

theorem test_witness_holdOpenRefusals :
    (∀ slot ∈ [Slot.empty, .nullBound, .stale (copyOf allRights), .bound (copyOf noRights), .bound (copyOf allRights)],
      ∀ body ∈ openBodies, (takingThrough slot body).Takes 0 body [] ∧ (takingThrough slot body).Passes 0 body .holdOpen) ∧
    (let s := { takingThrough (.bound (copyOf allRights)) openBody with
      holds := (Vector.replicate 16 none).set 15 (some (holdBy 0 5)) }
     s.Takes 0 openBody [] ∧ s.Passes 0 openBody .holdOpen ∧ s.holdConflicts 0 64 4 = true ∧ s.activeHolds < 16 ∧
      s.ownedHolds 0 < 4) ∧
    (let s := { takingThrough (.bound (copyOf allRights)) openBody with
      holds := ((((Vector.replicate 16 none).set 0 (some (holdBy 0 5))).set 1 (some (holdBy 0 5))).set 2
        (some (holdBy 0 5))).set 3 (some (holdBy 0 5)) }
     s.Takes 0 openBody [] ∧ s.Passes 0 openBody .holdOpen ∧ 4 ≤ s.ownedHolds 0) := by decide +kernel

/-- A FENCE of P0 with tag 9, and the part where it waits for tag 3, which bank B0 serves. -/
def fenceBody : List Byte := request 10 9 0 0 0 0 []
def fenced : State :=
  (serving (entryOf .read 0 1)).modPort 0 fun port =>
    { port with
      fifo := [fenceBody], head := .waitingFence, tags := port.tags.set 9 (some .head)
      egress := List.replicate 30 { placed := 0, response := { tag := 1, status := .ok } } }

theorem test_witness_fenceAnsweredOrWaits :
    ((taking fenceBody).Takes 0 fenceBody [] ∧ (taking fenceBody).Passes 0 fenceBody .fence ∧
      ∀ other, (taking fenceBody).tagHolder 0 other = none) ∧
    (((taking fenceBody).setTag 0 3 (some .bank)).Takes 0 fenceBody [] ∧
      ((taking fenceBody).setTag 0 3 (some .bank)).Passes 0 fenceBody .fence ∧
      ((taking fenceBody).setTag 0 3 (some .bank)).tagHolder 0 3 ≠ none) ∧
    fenced.Settled ∧ (fenced.port 0).head = .waitingFence ∧ (fenced.port 0).fifo = [fenceBody] ∧
    fenced.served 0 = some (entryOf .read 0 1, true, false) ∧ (3 : Tag) ≠ (headerOf fenceBody).tag ∧
    (∀ tag, (fenced.tagHolder 0 tag).isSome = decide (tag = 3 ∨ tag = (headerOf fenceBody).tag)) ∧
    (fenced.port 0).egress.length ≤ 30 := by decide +kernel

/-- A MGMT request of P0 that carries RESUME, at a port of this capability and tier. -/
def mgmtBody : List Byte := request 11 9 0 0 0 0 (block 15 [])
def managing (capable : Bool) (tier : Tier) (waiting : Nat) : State :=
  ((taking mgmtBody).modPort 0 fun port => { port with config := { port.config with tier := tier, mgmtCapable := capable } }).modMgmt
    fun m => { m with queue := List.replicate waiting (spiCommand (block 15 [])) }

theorem test_witness_mgmtIsQueuedOrRefused :
    ∀ s ∈ [managing false 0 0, managing true 3 0, managing true 0 8, managing true 0 7],
      s.Takes 0 mgmtBody [] ∧ s.Passes 0 mgmtBody .mgmt := by decide +kernel

theorem test_witness_bankDecisionFollowsProcedure :
    (ready.modBank 7 fun bank => { bank with decisionDue := true }).nextDue = some (.decide 7) := by decide +kernel

theorem test_witness_readServiceAnswers :
    (∀ s ∈ [serving (entryOf .read 4 4), { serving (entryOf .read 4 4) with health := [(7, .uncorrectable)] }],
      s.Settled ∧ s.served 0 = some (entryOf .read 4 4, true, false) ∧ (s.port 0).egress.length < 32) ∧
    (serving (entryOf .read 4 4)).MemoryWf ∧
    (∀ unit ∈ unitsFrom 4 4, (serving (entryOf .read 4 4)).unitHealth unit ≠ .uncorrectable) ∧
    ({ serving (entryOf .read 4 4) with health := [(7, .uncorrectable)] }.unitHealth 7 = .uncorrectable ∧
      (7 : UnitAddr) ∈ unitsFrom 4 4) := by
  refine ⟨by decide +kernel, ⟨by decide +kernel, by decide +kernel⟩, fun _ _ => show Health.clean ≠ .uncorrectable by decide, by decide +kernel⟩

/-- A WRITE of the last unit of memory. -/
def lastWrite : Entry := entryOf (.write (List.replicate 16 7)) 0x3FFFFF 1

theorem test_witness_writeServiceStoresItsUnits : (serving lastWrite).Settled ∧ (serving lastWrite).MemoryWf ∧
    (serving lastWrite).served 0 = some (lastWrite, true, false) ∧ (List.replicate 16 (7 : Byte)).length = 16 * lastWrite.length ∧
    lastWrite.unit.toNat + lastWrite.length ≤ 4194304 ∧ ((serving lastWrite).port 0).egress.length < 32 := by
  refine ⟨by decide +kernel, ⟨by decide +kernel, by decide +kernel⟩, by decide +kernel⟩

theorem test_witness_modifyServicesStoreOneUnit :
    (∀ op ∈ [EntryOp.writeMasked (List.replicate 16 7) 0x8001, .atomic .fetchAdd true 1 0],
      (serving (entryOf op 5 1)).Settled ∧ (serving (entryOf op 5 1)).served 0 = some (entryOf op 5 1, true, false) ∧
      (serving (entryOf op 5 1)).unitHealth 5 ≠ .uncorrectable ∧ ((serving (entryOf op 5 1)).port 0).egress.length < 32) ∧
    (serving (entryOf .read 5 1)).MemoryWf := by
  refine ⟨by decide +kernel, ⟨by decide +kernel, by decide +kernel⟩⟩

/-- The entry with its discarded mark set. -/
def discardedOf (entry : Entry) : Entry := { entry with discarded := true }

theorem test_witness_services_discarded : ∀ op ∈ [EntryOp.read, .write (List.replicate 16 7),
      .writeMasked (List.replicate 16 7) 1, .atomic .swap false 1 0],
    let s := serving (discardedOf (entryOf op 5 1))
    s.Settled ∧ s.served 0 = some (discardedOf (entryOf op 5 1), true, false) ∧ (s.port 0).head ≠ .waitingFence := by
  decide +kernel

theorem test_witness_services_health : ∀ op ∈ [EntryOp.read, .writeMasked (List.replicate 16 7) 1, .atomic .swap false 1 0],
    ∀ health ∈ [Health.correctable, .uncorrectable],
    let s := { serving (entryOf op 5 1) with health := [(5, health)] }
    s.Settled ∧ s.served 0 = some (entryOf op 5 1, true, false) ∧ s.unitHealth 5 = health := by decide +kernel

/-- INITIALIZING with bank B0 in its last clearing service. -/
def clearing : State :=
  { State.reset with
    device := .initializing
    banks := State.reset.banks.set 0 { resetBank with state := .serving .clearing, clearPosition := 127 } }

theorem test_witness_clearingServiceZeroesItsUnits : clearing.Settled ∧ clearing.MemoryWf ∧ clearing.device = .initializing ∧
    (clearing.bank 0).state = .serving .clearing := by
  refine ⟨by decide +kernel, ⟨by decide +kernel, by decide +kernel⟩, by decide +kernel⟩

theorem test_witness_refreshPaysOneObligation : refreshing.Settled ∧ refreshing.ParitySettled ∧
    refreshing.device.isDraining = false ∧ (refreshing.bank 0).state = .refreshing := by decide +kernel

theorem test_witness_drainCompletes : ∀ reason ∈ [Drain.profile defaultProfile, .quiesce],
    { ready with device := .draining reason }.nextDue = some .drain ∧
    { ready with device := .draining reason }.ParitySettled := by decide +kernel

theorem test_witness_spiTransactions : ready.Settled ∧ ready.device ≠ .reset ∧ calibrating.Settled ∧
    (∀ slot ∈ [SpiSlot.queued, .executing], { ready with mgmt := { resetMgmt with spiSlot := slot } }.Settled) ∧
    8 ≤ (ready.modMgmt fun m => { m with queue := List.replicate 8 (spiCommand [1]) }).mgmt.queue.length ∧
    (ready.modMgmt fun m => { m with queue := List.replicate 8 (spiCommand [1]) }).Settled ∧
    (4 : Byte) ≠ 1 ∧ (4 : Byte) ≠ 2 ∧ (4 : Byte) ≠ 3 ∧ (0 : Byte) ≠ 1 := by decide +kernel

/-- READY with the result of a MGMT request of P0 outstanding on tag 9. -/
def inBand : QueuedCommand := { source := .port 0 9, block := block 15 [], placed := 0 }

theorem test_witness_executionRejectsAndDelivers :
    (∀ bytes ∈ [[15, 0, 0], block 0 [], block 20 []], (queued ready bytes).Heads (spiCommand bytes)) ∧
    ((queued ready [10, 0, 0, 0]).Heads (spiCommand [10, 0, 0, 0]) ∧ blockCommand [10, 0, 0, 0] = none ∧
      namedCommand [10, 0, 0, 0] ≠ none) ∧
    ((queued { ready with device := .quiescent } (block 14 [])).Heads (spiCommand (block 14 [])) ∧
      blockCommand (block 14 []) = some .quiesce ∧ permitted .quiesce .quiescent = false) ∧
    ready.ParitySettled ∧ (spiCommand [1]).source = .spi ∧ inBand.source = .port 0 9 ∧
    (ready.setTag 0 9 (some .mgmt)).tagHolder 0 9 = some .mgmt ∧ ((ready.setTag 0 9 (some .mgmt)).port 0).egress.length < 32 ∧
    ready.tagHolder 0 9 ≠ some .mgmt := by decide +kernel

theorem test_witness_executionRejectsAndDelivers_full :
    let s := (ready.setTag 0 9 (some .mgmt)).modPort 0 fun port =>
      { port with egress := List.replicate 32 { placed := 0, response := { tag := 1, status := .ok } } }
    s.ParitySettled ∧ s.tagHolder 0 9 = some .mgmt ∧ 32 ≤ (s.port 0).egress.length := by decide +kernel

theorem test_witness_registerCommands :
    (∀ address ∈ [0x00, 0x36, 0x37], (queued ready (block 1 (leBytes 2 address ++ [0, 0]))).Executes
      (spiCommand (block 1 (leBytes 2 address ++ [0, 0]))) .regRead) ∧
    ∀ address ∈ [0x00, 0x0B, 0x10, 0x17, 0x20, 0x27, 0x30, 0x31, 0x32, 0x33, 0x34, 0x35, 0x36, 0x37],
      let bytes := block 2 (leBytes 2 address ++ [0, 0] ++ leBytes 4 0xFFFFFFFF)
      (queued ready bytes).Executes (spiCommand bytes) .regWrite ∧ numberAt bytes 4 2 = address := by decide +kernel

/-- The argument bytes of APERTURE_CREATE and APERTURE_MODIFY for an index: units 64 to 67, every right, tier 3, P0. -/
def descriptorBytes (index : Nat) : List Byte :=
  leBytes 2 index ++ [0, 0] ++ leBytes 4 64 ++ leBytes 4 3 ++ [0, 7, 3, 1]

theorem test_witness_apertureCreateReadAndBadIndex :
    (∀ index ∈ [0, 1, 1023, 1024],
      (queued ready (block 3 (descriptorBytes index))).Executes (spiCommand (block 3 (descriptorBytes index))) .apertureCreate ∧
      (queued ready (block 4 (descriptorBytes index))).Executes (spiCommand (block 4 (descriptorBytes index))) .apertureModify ∧
      (queued ready (block 5 (leBytes 2 index ++ [0, 0]))).Executes (spiCommand (block 5 (leBytes 2 index ++ [0, 0])))
        .apertureRetire ∧
      (queued ready (block 6 (leBytes 2 index ++ [0, 0]))).Executes (spiCommand (block 6 (leBytes 2 index ++ [0, 0])))
        .apertureRead ∧
      numberAt (block 3 (descriptorBytes index)) 4 2 = index) ∧ (ready.entry 1).parityBad = false := by decide +kernel

/-- READY with aperture 1 LIVE and this many entries in flight. -/
def mapped (flight : Nat) : State := ready.modEntry 1 fun entry => { entry with state := .live, inFlight := flight }

theorem test_witness_apertureModifyWalksTheSlots :
    (queued (mapped 0) (block 4 (descriptorBytes 1))).Executes (spiCommand (block 4 (descriptorBytes 1))) .apertureModify ∧
    ((mapped 0).entry 1).state = .live ∧ ((mapped 0).entry 1).parityBad = false ∧
    (descriptorOf (block 4 (descriptorBytes 1))).isSome = true := by decide +kernel

theorem test_witness_apertureRetireStalesAndFrees : ∀ flight ∈ [0, 1],
    (queued (mapped flight) (block 5 [1, 0, 0, 0])).Executes (spiCommand (block 5 [1, 0, 0, 0])) .apertureRetire ∧
    ((mapped flight).entry 1).state = .live ∧ ((mapped flight).entry 1).parityBad = false := by decide +kernel

/-- A state with entry 1 of bad parity, or not LIVE. -/
def spoiled (s : State) : State := s.modEntry 1 fun entry => { entry with parityBad := true }

theorem test_witness_apertureCommands_refused : ∀ s ∈ [ready, spoiled ready, spoiled (mapped 0)],
    (queued s (block 3 (descriptorBytes 1))).Executes (spiCommand (block 3 (descriptorBytes 1))) .apertureCreate ∧
    (queued s (block 4 (descriptorBytes 1))).Executes (spiCommand (block 4 (descriptorBytes 1))) .apertureModify ∧
    (queued s (block 5 [1, 0, 0, 0])).Executes (spiCommand (block 5 [1, 0, 0, 0])) .apertureRetire ∧
    (queued { s with device := .halted } (block 6 [1, 0, 0, 0])).Executes (spiCommand (block 6 [1, 0, 0, 0])) .apertureRead ∧
    (ready.entry 1).state ≠ .live ∧ ((spoiled (mapped 0)).entry 1).parityBad = true := by decide +kernel

theorem test_witness_apertureModify_badDescriptor :
    let bytes := block 4 (descriptorBytes 1 |>.set 14 4)
    (queued (mapped 0) bytes).Executes (spiCommand bytes) .apertureModify ∧ descriptorOf bytes = none := by decide +kernel

/-- READY with bank B0 serving a READ of aperture 1, which has this state, parity and number of entries in flight. -/
def retiring (state : ApState) (bad : Bool) (flight : Nat) (entry : Entry) : State :=
  (serving entry).modEntry 1 fun e => { e with state := state, parityBad := bad, inFlight := flight }

theorem test_witness_apertureRetireStalesAndFrees_completion :
    (∀ state ∈ [ApState.live, .retiring], ∀ bad ∈ [true, false], ∀ flight ∈ [1, 2],
      let s := retiring state bad flight (entryOf .read 5 1)
      s.Settled ∧ s.served 0 = some (entryOf .read 5 1, true, false) ∧ (s.entry 1).inFlight = flight ∧
      (s.entry 1).parityBad = bad ∧ (s.entry 1).state = state) ∧
    (let entry := { entryOf .read 5 1 with orphaned := true }
     (retiring .free false 0 entry).Settled ∧ (retiring .free false 0 entry).served 0 = some (entry, true, false)) := by
  decide +kernel

/-- READY with one command of P0 at the head of the management queue. -/
def queuedInBand (bytes : List Byte) : State := ready.modMgmt fun m =>
  { m with queue := [{ source := .port 0 9, block := bytes, placed := 0 }] }

theorem test_witness_portCommands :
    (∀ port ∈ [(0 : Byte), 3, 4],
      (queued ready (block 7 [port, 0, 0, 0, 0, 0, 0, 0])).Executes (spiCommand (block 7 [port, 0, 0, 0, 0, 0, 0, 0])) .portConfig ∧
      (queued ready (block 8 [port, 0, 0, 0])).Executes (spiCommand (block 8 [port, 0, 0, 0])) .portReset) ∧
    (queuedInBand (block 7 [0, 0, 0, 0, 0, 0, 0, 0])).Executes
      { source := .port 0 9, block := block 7 [0, 0, 0, 0, 0, 0, 0, 0], placed := 0 } .portConfig ∧
    (queuedInBand (block 8 [0, 0, 0, 0])).Executes
      { source := .port 0 9, block := block 8 [0, 0, 0, 0], placed := 0 } .portReset ∧
    (configArgument (block 7 [0, 0, 0, 0, 0, 0, 0, 0])).enabled = false := by decide +kernel

theorem test_witness_portCommands_enabling :
    let off := onPort fun port => { port with config := { port.config with enabled := false } }
    (queued off (block 7 [0, 1, 2, 0, 0, 0, 0, 0])).Executes (spiCommand (block 7 [0, 1, 2, 0, 0, 0, 0, 0])) .portConfig ∧
    (off.port 0).config.enabled = false ∧ (off.link 0).state = .down ∧ (off.port 0).config.tier ≠ 2 ∧
    (configArgument (block 7 [0, 1, 2, 0, 0, 0, 0, 0])).enabled = true ∧
    (configArgument (block 7 [0, 1, 2, 0, 0, 0, 0, 0])).tier = 2 := by decide +kernel

theorem test_witness_logCommands :
    (queued ready (block 9 [])).Executes (spiCommand (block 9 [])) .logPop ∧
    (queued ready (block 10 [63, 0, 0, 0])).Executes (spiCommand (block 10 [63, 0, 0, 0])) .logPeek ∧
    (queued ready (block 11 [])).Executes (spiCommand (block 11 [])) .logClear := by decide +kernel

theorem test_witness_profileCommands :
    (queued ready (block 12 [0, 4, 4, 1, 0, 0, 0, 16])).Executes (spiCommand (block 12 [0, 4, 4, 1, 0, 0, 0, 16]))
      .profileStage ∧
    ∀ device ∈ [DevState.unconfigured, .initializing, .ready, .quiescent],
      (queued { ready with device := device } (block 13 [])).Executes (spiCommand (block 13 [])) .profileCommit ∧
      (queued { ready with device := device, staged := { defaultProfile with bankMap := .linear } } (block 13 [])).Executes
        (spiCommand (block 13 [])) .profileCommit := by decide +kernel

/-- The bounds of Table 1-3 on both sides: refresh interval 2 and 32, postpone limit 4, hold ceiling 1 and 65535. -/
theorem test_profile_ranges :
    let ok (bytes : List Byte) := (profileArgument (block 12 bytes)).isSome
    [[0, 2, 0, 0, 0, 0, 1, 0], [1, 32, 4, 1, 1, 0, 255, 255]].all ok = true ∧
    [[2, 4, 4, 0, 0, 0, 1, 0], [0, 1, 4, 0, 0, 0, 1, 0], [0, 33, 4, 0, 0, 0, 1, 0], [0, 4, 5, 0, 0, 0, 1, 0],
      [0, 4, 4, 2, 0, 0, 1, 0], [0, 4, 4, 0, 2, 0, 1, 0], [0, 4, 4, 0, 0, 0, 0, 0]].any ok = false := by decide +kernel

theorem test_witness_quiesceResumeAndHalt :
    ((queued (crowded ready) (block 14 [])).Executes (spiCommand (block 14 [])) .quiesce ∧
      ((crowded ready).bank 0).queue ≠ []) ∧
    (queued ready (block 15 [])).Executes (spiCommand (block 15 [])) .resume ∧
    (queued { ready with device := .quiescent } (block 15 [])).Executes (spiCommand (block 15 [])) .resume ∧
    (queued ready (block 19 [])).Executes (spiCommand (block 19 [])) .halt := by decide +kernel

theorem test_witness_datapathResetEffects :
    (queued ready (block 16 [])).Executes (spiCommand (block 16 [])) .datapathReset := by decide +kernel

/-- A RETIRING entry with a READ in service, P1 disabled and P2 FAILED, in READY and in a PROFILE drain. -/
def resetting (device : DevState) : State :=
  ({ retiring .retiring false 1 (entryOf .read 5 1) with device := device }.modPort 1 fun port =>
    { port with config := { port.config with enabled := false } }).modLink 2 fun link => { link with state := .failed }

theorem test_witness_datapathResetEffects_retiring : ∀ device ∈ [DevState.ready, .draining (.profile defaultProfile)],
    let s := resetting device
    (queued s (block 16 [])).Executes (spiCommand (block 16 [])) .datapathReset ∧ (s.entry 1).state = .retiring ∧
    (∀ entry ∈ (s.bank 0).queue, entry.aperture = 1 → inService (s.bank 0) entry = true) ∧
    (∀ b, b ≠ 0 → (s.bank b).queue = []) ∧ (s.link 2).state = .failed ∧ (s.port 1).config.enabled = false := by
  decide +kernel

/-- A RETIRING entry with one READ in service and one that waits, so that two are in flight. -/
def resettingTwo : State :=
  (retiring .retiring false 2 (entryOf .read 5 1)).modBank 1 fun bank => { bank with queue := [entryOf .read 40 1] }

theorem test_witness_datapathResetEffects_waiting :
    (queued resettingTwo (block 16 [])).Executes (spiCommand (block 16 [])) .datapathReset ∧
    (resettingTwo.entry 1).inFlight = resettingTwo.entriesNaming 1 ∧ inService (resettingTwo.bank 1) (entryOf .read 40 1) = false ∧
    ∀ b, ∀ entry ∈ (resettingTwo.bank b).queue, entry.orphaned = false := by decide +kernel

theorem test_witness_holdBreakAndInjectEcc :
    (∀ id ∈ [(0 : Byte), 15, 16], (queued holding (block 17 [id, 0, 0, 0])).Executes (spiCommand (block 17 [id, 0, 0, 0]))
      .holdBreak) ∧
    holding.hold 0 ≠ none ∧ holding.hold 15 = none ∧
    ∀ kind ∈ [(0 : Byte), 1, 2, 3], (queued ready (block 18 (leBytes 4 0x3FFFFF ++ [kind, 0, 0, 0]))).Executes
      (spiCommand (block 18 (leBytes 4 0x3FFFFF ++ [kind, 0, 0, 0]))) .injectEcc := by decide +kernel

/-! ### Reports that come with an effect -/

/-- The hold of P0 is about to expire alone, and P0 has its link up and room for the event. -/
def expiring : State := holding.modLink 0 fun link => { link with state := .active }

theorem test_witness_holdExpires_reports : expiring.TickFree ∧ expiring.hold 0 = some (holdBy 0 1) ∧
    (∀ g, g ≠ 0 → (expiring.hold g).all (fun other => decide (1 < other.remaining)) = true) ∧
    (∀ p, (expiring.link p).state ≠ .retrain) ∧ (expiring.link 0).state ∉ [.down, .failed] ∧
    (expiring.port 0).events.length < 8 ∧ expiring.faults.classMask.getLsbD 4 = true ∧ expiring.faults.log.length < 64 := by
  decide +kernel

/-- The service of an entry to unit 5 of this health, decoded with log_corrected on (R114, R116). -/
def recording (op : EntryOp) (health : Health) : State :=
  { (serving (entryOf op 5 1)).modBank 0 (fun bank => { bank with state := .serving (.entry 0 true true) }) with
    health := [(5, health)] }

theorem test_witness_services_records : ∀ op ∈ [EntryOp.read, .writeMasked (List.replicate 16 7) 1, .atomic .swap false 1 0],
    ∀ health ∈ [Health.correctable, .uncorrectable],
    let s := recording op health
    s.Settled ∧ s.served 0 = some (entryOf op 5 1, true, true) ∧ s.unitHealth 5 = health ∧
    s.ReportsOnlyData (entryOf op 5 1) := by decide +kernel

theorem test_witness_writeService_records : (serving lastWrite).ReportsOnlyData lastWrite := by decide +kernel

/-- Aperture 1 LIVE with P0, whose link is up, in its mask, a slot of P0 bound to it and a hold of P0 on it. -/
def shared : State :=
  (((mapped 0).modEntry 1 fun entry => { entry with portMask := 1 }).setHold 2 (some (holdBy 0 5))).modPort 0 fun port =>
    { port with
      link := { port.link with state := .active }, slots := port.slots.set 4 (.bound (copyOf allRights))
      config := { port.config with maskAttention := true, maskFreed := true } }

/-- R78, R79: SLOTS_STALE, then HOLD_BROKEN, then APERTURE_FREED. -/
theorem test_retire_events : (after .apertureRetire (queued shared (block 5 [1, 0, 0, 0]))).eventsOf 0 =
    [.slotsStale 0x10, .holdBroken 2 .retire, .apertureFreed 1] := by decide +kernel

/-- R12, R16, R137: HOLD_BROKEN goes before DEVICE_STATE(DRAINING). -/
theorem test_quiesce_events : (after .quiesce (queued (crowded shared) (block 14 []))).eventsOf 0 =
    [.holdBroken 2 .drain, .deviceState .draining] := by decide +kernel

/-- R18: the record of HALT, whose LOG_ATTENTION stands ahead of DEVICE_STATE(HALTED) by the model's reading (log entry 25). -/
theorem test_halt_events : let t := after .halt (queued shared (block 19 []))
    t.eventsOf 0 = [.logAttention, .deviceState .halted] ∧ t.faults.log.map (fun r => r.fault.code) = [.haltCommand] := by
  decide +kernel

theorem test_witness_raised : (∀ p, (shared.port p).events = []) ∧ shared.hold 2 = some (holdBy 0 5) ∧
    (∀ bytes ∈ [block 7 [0, 1, 2, 0, 0, 0, 0, 0], block 17 [2, 0, 0, 0]], (queued shared bytes).Heads (spiCommand bytes)) ∧
    (configArgument (block 7 [0, 1, 2, 0, 0, 0, 0, 0])).enabled = true ∧ (shared.port 0).config.enabled = true ∧
    (shared.port 0).config.tier ≠ (configArgument (block 7 [0, 1, 2, 0, 0, 0, 0, 0])).tier ∧
    ((crowded shared).bank 0).queue ≠ [] := by decide +kernel

theorem test_witness_apertureRetireStalesAndFrees_freed :
    let s := ((retiring .retiring false 1 (entryOf .read 5 1)).modEntry 1 fun entry => { entry with portMask := 1 }).modPort 0
      fun port => { port with
        link := { port.link with state := .active }, config := { port.config with maskFreed := true } }
    s.Settled ∧ s.served 0 = some (entryOf .read 5 1, true, false) ∧ (s.entry 1).inFlight = 1 ∧
    (s.entry 1).parityBad = false ∧ (s.entry 1).portMask.getLsbD 0 = true ∧ (s.port 0).config.maskFreed = true ∧
    (s.link 0).state ∉ [.down, .failed] ∧ (s.port 0).events.length ≤ 4 := by decide +kernel

theorem test_witness_executionRejectsAndDelivers_slot : (queued ready (block 15 [])).SpiSlotKept ∧
    (queued ready (block 15 [])).mgmt.queue.head? = some (spiCommand (block 15 [])) := by
  refine ⟨⟨by decide +kernel, by decide +kernel, by decide +kernel⟩, by decide +kernel⟩

theorem test_witness_resetAssertAndRelease : State.reset.device = .reset ∧ ready.device ≠ .reset := by decide

/-- The invariants are met by READY, whose steps the statements about every step speak of. -/
theorem test_witness_stepInvariants : ready.MemoryWf ∧ ready.ParitySettled ∧ ready.LinksDown ∧ ready.AttentionKept := by
  refine ⟨⟨by decide +kernel, by decide +kernel⟩, by decide +kernel⟩

theorem test_witness_stepKeepsBindingCounts : State.reset.BindingsCounted := fun i => by
  simp [State.slotsNaming, State.slot, State.port, State.entry, State.reset, resetPort, resetEntry, allPorts, allSlots, slotIndex]

theorem test_witness_stepKeepsHoldsApart : State.reset.HoldsApart :=
  ⟨fun _ h _ _ second _ found => absurd found (by simp [State.hold, State.reset]), by decide +kernel⟩

theorem test_witness_haltedIsLeftByResetOnly : { ready with device := .halted }.device = .halted ∧
    Instr.tick ≠ .resetNAssert := by decide

theorem test_witness_onlyServicesChangeMemory : (∀ b, Instr.tick ≠ .writeService b) ∧ ∀ p, Instr.tick ≠ .fenceAnswer p := by
  decide

end Sys2Proof.Tests
end

section
/-! The step and the command queue. -/

namespace Sys2Proof.Machine

/-- On an empty queue a step idles. -/
theorem step_of_pending_nil {s : State} (h : s.pending = []) : step s = .next s := by
  simp only [step, h]

/-- A step takes the front command off the queue and runs it on the rest. -/
theorem step_of_pending_cons {s : State} {i : Instr} {rest : List Instr} (h : s.pending = i :: rest) :
    step s = exec i { s with pending := rest } := by
  simp only [step, h]

/-- Settles O1: the two cases of the queue; putting `i` in front of `s.pending` and taking it off again gives back `s`. -/
theorem stepRunsTheFrontCommand : Obligations.StepRunsTheFrontCommand :=
  ⟨fun _ _ => step_of_pending_cons rfl, fun _ => step_of_pending_nil⟩

end Sys2Proof.Machine
end

section
/-! The frames of the device-wide operations: what they leave of the ports and of the device state. -/

namespace Sys2Proof.Machine

/-! ### What a read of one part gives after an update of another -/

@[simp] theorem State.entry_modPort (s : State) (p : PortId) (f : Port → Port) (i : ApIndex) :
    (s.modPort p f).entry i = s.entry i := rfl
@[simp] theorem State.entry_modLink (s : State) (p : PortId) (f : Link → Link) (i : ApIndex) :
    (s.modLink p f).entry i = s.entry i := rfl
@[simp] theorem State.entry_modBank (s : State) (b : BankId) (f : Bank → Bank) (i : ApIndex) :
    (s.modBank b f).entry i = s.entry i := rfl
@[simp] theorem State.entry_mapBanks (s : State) (f : Bank → Bank) (i : ApIndex) :
    (s.mapBanks f).entry i = s.entry i := rfl
@[simp] theorem State.entry_modMgmt (s : State) (f : Mgmt → Mgmt) (i : ApIndex) :
    (s.modMgmt f).entry i = s.entry i := rfl
@[simp] theorem State.entry_promptAttempts (s : State) (i : ApIndex) : s.promptAttempts.entry i = s.entry i := rfl
@[simp] theorem State.link_setDevice (s : State) (d : DevState) (p : PortId) : (s.setDevice d).link p = s.link p := rfl
@[simp] theorem State.hold_modMgmt (s : State) (f : Mgmt → Mgmt) (h : HoldId) : (s.modMgmt f).hold h = s.hold h := rfl
@[simp] theorem State.bank_modMgmt (s : State) (f : Mgmt → Mgmt) (b : BankId) : (s.modMgmt f).bank b = s.bank b := rfl

/-! ### Ports that keep all but their events and their due attempt -/

/-- The port differs in nothing but its event queue and whether a new attempt is due. -/
def PortKept (before after : Port) : Prop :=
  after = { before with events := after.events, eventsLost := after.eventsLost, attemptDue := after.attemptDue }

theorem PortKept.refl (port : Port) : PortKept port port := rfl

theorem PortKept.trans {a b c : Port} (h : PortKept a b) (k : PortKept b c) : PortKept a c := by
  unfold PortKept at *; rw [k, h]

theorem PortReports.kept {a b : Port} (h : PortReports a b) : PortKept a b := by
  unfold PortReports at h; unfold PortKept; rw [h]

theorem portKept_promptPort (port : Port) : PortKept port (promptPort port) := by
  unfold PortKept; rw [promptPort_eq port]

/-- The device state and the active profile are as before, and so is every port but for its events and its due attempt. -/
structure Steady (s t : State) : Prop where
  device : t.device = s.device
  active : t.active = s.active
  ports : ∀ p, PortKept (s.port p) (t.port p)

theorem Steady.refl (s : State) : Steady s s := ⟨rfl, rfl, fun _ => rfl⟩

theorem Steady.trans {a b c : State} (h : Steady a b) (k : Steady b c) : Steady a c :=
  ⟨k.device.trans h.device, k.active.trans h.active, fun p => (h.ports p).trans (k.ports p)⟩

theorem Steady.link {s t : State} (h : Steady s t) (p : PortId) : t.link p = s.link p := by
  rw [State.link, h.ports p]; rfl

theorem Steady.config {s t : State} (h : Steady s t) (p : PortId) : (t.port p).config = (s.port p).config := by
  rw [h.ports p]

theorem Steady.slot {s t : State} (h : Steady s t) (p : PortId) (k : SlotId) : t.slot p k = s.slot p k := by
  rw [State.slot, h.ports p]; rfl

theorem Steady.tagHolder {s t : State} (h : Steady s t) (p : PortId) (tag : Tag) :
    t.tagHolder p tag = s.tagHolder p tag := by rw [State.tagHolder, h.ports p]; rfl

theorem Steady.egress {s t : State} (h : Steady s t) (p : PortId) : (t.port p).egress = (s.port p).egress := by
  rw [h.ports p]

theorem Reports.steady {s t : State} (h : Reports s t) : Steady s t := ⟨h.device, h.active, fun p => (h.ports p).kept⟩

/-- A state with the ports, the device state and the active profile of another. -/
theorem steady_of_ports {s t : State} (device : t.device = s.device) (active : t.active = s.active)
    (ports : t.ports = s.ports) : Steady s t :=
  ⟨device, active, fun p => by unfold State.port; rw [ports]; rfl⟩

theorem steady_modBank (s : State) (b : BankId) (f : Bank → Bank) : Steady s (s.modBank b f) := steady_of_ports rfl rfl rfl
theorem steady_mapBanks (s : State) (f : Bank → Bank) : Steady s (s.mapBanks f) := steady_of_ports rfl rfl rfl
theorem steady_modEntry (s : State) (i : ApIndex) (f : ApEntry → ApEntry) : Steady s (s.modEntry i f) :=
  steady_of_ports rfl rfl rfl
theorem steady_setHold (s : State) (h : HoldId) (e : Option Hold) : Steady s (s.setHold h e) := steady_of_ports rfl rfl rfl
theorem steady_modMgmt (s : State) (f : Mgmt → Mgmt) : Steady s (s.modMgmt f) := steady_of_ports rfl rfl rfl
theorem steady_modFaults (s : State) (f : FaultUnit → FaultUnit) : Steady s (s.modFaults f) := steady_of_ports rfl rfl rfl
theorem steady_setHealth (s : State) (u : UnitAddr) (h : Health) : Steady s (s.setHealth u h) := steady_of_ports rfl rfl rfl
theorem steady_setData (s : State) (u : UnitAddr) (d : List Byte) : Steady s (s.setData u d) := steady_of_ports rfl rfl rfl
theorem steady_offer (s : State) (fault : Offer) : Steady s (s.offer fault) := (reports_offer s fault).steady
theorem steady_raise (s : State) (p : PortId) (e : Event) : Steady s (s.raise p e) := (reports_raise s p e).steady

theorem steady_promptAttempts (s : State) : Steady s s.promptAttempts :=
  ⟨rfl, rfl, fun p => by rw [State.port_promptAttempts]; exact portKept_promptPort _⟩

theorem steady_ite {c : Prop} [Decidable c] {s a b : State} (h : Steady s a) (k : Steady s b) :
    Steady s (if c then a else b) := by
  split
  · exact h
  · exact k

theorem steady_foldl {α : Type} {f : State → α → State} (h : ∀ s a, Steady s (f s a)) :
    ∀ (list : List α) (s : State), Steady s (list.foldl f s)
  | [], s => .refl s
  | a :: rest, s => (h s a).trans (steady_foldl h rest (f s a))

theorem steady_endHold (s : State) (h : HoldId) (cause : HoldEnd) : Steady s (s.endHold h cause) := by
  unfold State.endHold
  split
  · exact .refl _
  · exact ((steady_setHold ..).trans (reports_reportHoldEnd ..).steady).trans (steady_mapBanks ..)

theorem steady_endHolds (s : State) (cause : HoldEnd) (which : Hold → Bool) : Steady s (s.endHolds cause which) :=
  steady_foldl (fun _ _ => steady_ite (steady_endHold ..) (.refl _)) _ _

theorem steady_raiseStale (s : State) (p : PortId) (slots : BitVec 8) : Steady s (s.raiseStale p slots) :=
  steady_ite (.refl _) (steady_raise ..)

theorem steady_raiseStaled (s before : State) (which : PortId → SlotCopy → Bool) :
    Steady s (s.raiseStaled before which) := steady_foldl (fun _ _ => steady_raiseStale ..) _ _

theorem steady_freeEntry (s : State) (i : ApIndex) : Steady s (s.freeEntry i) :=
  (steady_modEntry ..).trans (reports_raiseFreed ..).steady

theorem steady_dropInFlight (s : State) (i : ApIndex) : Steady s (s.dropInFlight i) := steady_modEntry ..

theorem steady_dropEntries : ∀ (list : List Entry) (s : State), Steady s (s.dropEntries list).1
  | [], s => .refl s
  | entry :: rest, s => (steady_dropInFlight s entry.aperture).trans (steady_dropEntries rest _)

theorem steady_parityDefer (s : State) (i : ApIndex) : Steady s (s.parityDefer i) :=
  steady_ite (steady_offer ..) (steady_of_ports rfl rfl rfl)

theorem steady_lookupDrained {failed : State → ApIndex → State} (h : ∀ s i, Steady s (failed s i)) (s : State)
    (i : ApIndex) : Steady s (s.lookupDrained failed i) := steady_ite (h ..) (steady_ite (steady_freeEntry ..) (.refl _))

theorem steady_teardownRecord (s : State) (p : PortId) (cause : Teardown) : Steady s (s.teardownRecord p cause) := by
  cases cause
  case linkFailure => exact steady_offer ..
  case hostReset => exact steady_offer ..
  all_goals exact .refl _

/-! ### Slots -/

/-- A change of a slot concerns that slot and the aperture table alone (R81). -/
theorem setSlot_eq (s : State) (p : PortId) (k : SlotId) (new : Slot) : ∃ table, s.setSlot p k new =
    { s with apertures := table }.modPort p fun port => { port with slots := port.slots.set k new } := by
  unfold State.setSlot
  split <;> split <;> exact ⟨_, rfl⟩

theorem port_setSlot (s : State) (p : PortId) (k : SlotId) (new : Slot) (q : PortId) :
    (s.setSlot p k new).port q =
      if p = q then { s.port p with slots := (s.port p).slots.set k new } else s.port q := by
  obtain ⟨table, e⟩ := setSlot_eq s p k new
  rw [e, State.port_modPort]; rfl

/-- Slots of a port emptied one after the other: the aperture table and these slots alone change. -/
theorem setSlots_eq (p : PortId) (new : Slot) : ∀ (slots : List SlotId) (s : State), ∃ table,
    slots.foldl (fun (s : State) (k : SlotId) => s.setSlot p k new) s =
      { s with apertures := table }.modPort p fun port =>
        { port with slots := slots.foldl (fun (all : Vector Slot 8) (k : SlotId) => all.set k new) port.slots }
  | [], s => ⟨s.apertures, by
      have same : s.ports.set p (s.port p) = s.ports := by simp [State.port]
      change s = { s with ports := s.ports.set p (s.port p) }
      rw [same]⟩
  | k :: rest, s => by
    obtain ⟨first, e⟩ := setSlot_eq s p k new
    obtain ⟨table, h⟩ := setSlots_eq p new rest (s.setSlot p k new)
    refine ⟨table, ?_⟩
    rw [List.foldl_cons, h, e]
    simp [State.modPort, State.port]

end Sys2Proof.Machine
end

section
/-! Banks and holds: what the end of holds, a teardown and a tick leave of a bank engine. -/

namespace Sys2Proof.Machine

/-! ### What nothing but decisions, services and refreshes changes in a bank -/

/-- The bank differs in nothing but its queue and the count of its parked entries, and a decision point that was due is. -/
structure BankKept (before after : Bank) : Prop where
  rest : { after with queue := before.queue, parked := before.parked, decisionDue := before.decisionDue } = before
  due : before.decisionDue = true → after.decisionDue = true

theorem BankKept.refl (bank : Bank) : BankKept bank bank := ⟨rfl, id⟩

theorem BankKept.trans {a b c : Bank} (h : BankKept a b) (k : BankKept b c) : BankKept a c :=
  ⟨(congrArg (fun x : Bank => { x with queue := a.queue, parked := a.parked, decisionDue := a.decisionDue }) k.rest).trans
    h.rest, k.due ∘ h.due⟩

theorem BankKept.state {a b : Bank} (h : BankKept a b) : b.state = a.state := (congrArg Bank.state h.rest :)
theorem BankKept.owed {a b : Bank} (h : BankKept a b) : b.owed = a.owed := (congrArg Bank.owed h.rest :)
theorem BankKept.sinceRefresh {a b : Bank} (h : BankKept a b) : b.sinceRefresh = a.sinceRefresh :=
  (congrArg Bank.sinceRefresh h.rest :)
theorem BankKept.owedMax {a b : Bank} (h : BankKept a b) : b.owedMax = a.owedMax := (congrArg Bank.owedMax h.rest :)

theorem BankKept.inService {a b : Bank} (h : BankKept a b) (entry : Entry) : inService b entry = inService a entry := by
  rw [Machine.inService, Machine.inService, h.state]

theorem bankKept_dueIfIdle {before after : Bank} (h : BankKept before after) : BankKept before (dueIfIdle after) := by
  unfold dueIfIdle
  split
  · exact ⟨h.rest, fun _ => rfl⟩
  · exact h

/-- The bank's entries are the same but for the holds on which they are parked. -/
structure Reparked (before after : Bank) : Prop extends BankKept before after where
  queue : ∃ move : Entry → Entry, (∀ e, move e = { e with parkedOn := (move e).parkedOn }) ∧
    after.queue = before.queue.map move

theorem Reparked.refl (bank : Bank) : Reparked bank bank := ⟨.refl _, id, fun _ => rfl, by simp⟩

theorem Reparked.trans {a b c : Bank} (h : Reparked a b) (k : Reparked b c) : Reparked a c := by
  obtain ⟨first, hf, hq⟩ := h.queue
  obtain ⟨second, kf, kq⟩ := k.queue
  refine ⟨h.toBankKept.trans k.toBankKept, second ∘ first, fun e => ?_, by rw [kq, hq, List.map_map]⟩
  rw [Function.comp_apply, kf, hf]

theorem dueIfIdle_queue (bank : Bank) : (dueIfIdle bank).queue = bank.queue := by unfold dueIfIdle; split <;> rfl

theorem reparked_retestBank (s : State) (h : HoldId) (bank : Bank) : Reparked bank (s.retestBank h bank) := by
  have move : ∀ e, s.retestEntry h e = { e with parkedOn := (s.retestEntry h e).parkedOn } := by
    intro e; unfold State.retestEntry; split <;> rfl
  unfold State.retestBank
  dsimp only
  split
  · exact ⟨⟨rfl, id⟩, _, move, rfl⟩
  · exact ⟨bankKept_dueIfIdle ⟨rfl, id⟩, _, move, dueIfIdle_queue _⟩

/-! ### The end of holds -/

theorem reparked_endHold (s : State) (h : HoldId) (cause : HoldEnd) (b : BankId) :
    Reparked (s.bank b) ((s.endHold h cause).bank b) := by
  unfold State.endHold
  split
  · exact .refl _
  · next hold _ =>
    rw [State.retest, State.bank_mapBanks, (reports_reportHoldEnd (s.setHold h none) h hold cause).bank]
    exact reparked_retestBank ..

theorem reparked_endHolds (s : State) (cause : HoldEnd) (which : Hold → Bool) (b : BankId) :
    Reparked (s.bank b) ((s.endHolds cause which).bank b) := by
  refine List.foldlRecOn (motive := fun (t : State) => Reparked (s.bank b) (t.bank b)) _ _ (.refl _) fun t k h _ => ?_
  split
  · exact k.trans (reparked_endHold ..)
  · exact k

/-- The holds that meet the condition become FREE, and the others stay (R134). -/
theorem hold_endHolds (s : State) (cause : HoldEnd) (which : Hold → Bool) (g : HoldId) :
    (s.endHolds cause which).hold g = if (s.hold g).any which then none else s.hold g := by
  have fold : ∀ (list : List HoldId) (t : State), (list.foldl (fun (t : State) (h : HoldId) =>
      if (t.hold h).any which then t.endHold h cause else t) t).hold g =
        if g ∈ list ∧ (t.hold g).any which then none else t.hold g := by
    intro list
    induction list with
    | nil => simp
    | cons h rest ih =>
      intro t
      rw [List.foldl_cons, ih]
      by_cases met : (t.hold h).any which = true
      · rw [if_pos met, hold_endHold]
        by_cases same : g = h
        · subst same; simp [met]
        · simp [same]
      · rw [if_neg met]
        by_cases same : g = h
        · subst same; simp [met]
        · simp [same]
  simpa [State.endHolds] using fold allHolds s

/-- Nothing of the aperture table and of the management sequencer changes, and no lookup fails. -/
structure TablesKept (s t : State) : Prop where
  apertures : t.apertures = s.apertures
  mgmt : t.mgmt = s.mgmt
  parityPending : t.parityPending = s.parityPending

theorem TablesKept.refl (s : State) : TablesKept s s := ⟨rfl, rfl, rfl⟩

theorem TablesKept.trans {a b c : State} (h : TablesKept a b) (k : TablesKept b c) : TablesKept a c :=
  ⟨k.apertures.trans h.apertures, k.mgmt.trans h.mgmt, k.parityPending.trans h.parityPending⟩

theorem TablesKept.entry {s t : State} (h : TablesKept s t) (i : ApIndex) : t.entry i = s.entry i := by
  unfold State.entry; rw [h.apertures]

theorem Reports.tables {s t : State} (h : Reports s t) : TablesKept s t := ⟨h.apertures, h.mgmt, h.parityPending⟩

theorem tables_endHold (s : State) (h : HoldId) (cause : HoldEnd) : TablesKept s (s.endHold h cause) := by
  unfold State.endHold
  split
  · exact .refl _
  · next hold _ =>
    have told := (reports_reportHoldEnd (s.setHold h none) h hold cause).tables
    exact ⟨told.apertures, told.mgmt, told.parityPending⟩

theorem tables_endHolds (s : State) (cause : HoldEnd) (which : Hold → Bool) : TablesKept s (s.endHolds cause which) := by
  refine List.foldlRecOn (motive := fun (t : State) => TablesKept s t) _ _ (.refl _) fun t k h _ => ?_
  split
  · exact k.trans (tables_endHold ..)
  · exact k

end Sys2Proof.Machine
end

section
/-! Teardown (R20): what it does to each part of the state. -/

namespace Sys2Proof.Machine

/-! ### The entries that leave and their in-flight counts -/

/-- Lowering in-flight counts changes the aperture table alone. -/
theorem dropEntries_eq : ∀ (list : List Entry) (s : State), ∃ table, (s.dropEntries list).1 = { s with apertures := table }
  | [], s => ⟨s.apertures, rfl⟩
  | entry :: rest, s => by
    obtain ⟨table, e⟩ := dropEntries_eq rest (s.dropInFlight entry.aperture)
    exact ⟨table, e⟩

/-- The number of entries of a list that name an aperture. -/
def countOf (i : ApIndex) (list : List Entry) : Nat := (list.filter fun entry => decide (entry.aperture = i)).length

theorem entry_dropInFlight (s : State) (i j : ApIndex) : (s.dropInFlight i).entry j =
    { s.entry j with inFlight := (s.entry j).inFlight - if i = j then 1 else 0 } := by
  rw [State.dropInFlight, State.entry_modEntry]
  split
  · next e => subst e; rfl
  · rfl

theorem entry_dropEntries (i : ApIndex) : ∀ (list : List Entry) (s : State), (s.dropEntries list).1.entry i =
    { s.entry i with inFlight := (s.entry i).inFlight - countOf i list }
  | [], _ => rfl
  | entry :: rest, s => by
    change ((s.dropInFlight entry.aperture).dropEntries rest).1.entry i = _
    rw [entry_dropEntries i rest, entry_dropInFlight]
    by_cases e : entry.aperture = i
    · simp [countOf, e]; omega
    · simp [countOf, e]

/-- An index whose count reached 0 is one that an entry of the list named, and its count stays 0. -/
theorem zero_of_mem_dropEntries {i : ApIndex} : ∀ (list : List Entry) (s : State), i ∈ (s.dropEntries list).2 →
    0 < countOf i list ∧ ((s.dropEntries list).1.entry i).inFlight = 0
  | [], _, h => by simp [State.dropEntries] at h
  | entry :: rest, s, h => by
    rw [entry_dropEntries]
    have split : i = entry.aperture ∧ ((s.dropInFlight entry.aperture).entry entry.aperture).inFlight = 0 ∨
        i ∈ ((s.dropInFlight entry.aperture).dropEntries rest).2 := by
      simp only [State.dropEntries] at h
      split at h
      · next zero => exact (List.mem_cons.1 h).imp (fun e => ⟨e, zero⟩) id
      · exact .inr h
    rcases split with ⟨e, zero⟩ | tail
    · subst e
      rw [entry_dropInFlight] at zero
      simp [countOf] at zero ⊢
      omega
    · obtain ⟨some, zero⟩ := zero_of_mem_dropEntries rest _ tail
      rw [entry_dropEntries, entry_dropInFlight] at zero
      simp only [countOf, List.filter_cons] at some zero ⊢
      split
      · simp_all; omega
      · simp_all

/-! ### The bank queues -/

/-- A bank after a teardown of port `p`: its waiting entries have left, and the entry in service is marked (R20, R21). -/
structure BankTorn (p : PortId) (before after : Bank) : Prop extends BankKept before after where
  queue : ∃ mark : Entry → Entry,
    (∀ e, mark e = { e with parkedOn := (mark e).parkedOn, discarded := e.discarded || decide (e.port = p) }) ∧
      after.queue = (before.queue.filter fun e => !leavesWith p before e).map mark

theorem bankTorn_tornBank (p : PortId) (bank : Bank) : BankTorn p bank (tornBank p bank) := by
  have mark : ∀ e : Entry, (if e.port = p then { e with discarded := true } else e) =
      { e with parkedOn := (if e.port = p then { e with discarded := true } else e).parkedOn,
               discarded := e.discarded || decide (e.port = p) } := by
    intro e; split <;> simp_all
  unfold tornBank
  dsimp only
  split
  · exact ⟨⟨rfl, id⟩, _, mark, rfl⟩
  · exact ⟨bankKept_dueIfIdle ⟨rfl, id⟩, _, mark, dueIfIdle_queue _⟩

theorem BankTorn.repark {p : PortId} {a b c : Bank} (h : BankTorn p a b) (k : Reparked b c) : BankTorn p a c := by
  obtain ⟨mark, hm, hq⟩ := h.queue
  obtain ⟨move, km, kq⟩ := k.queue
  refine ⟨h.toBankKept.trans k.toBankKept, move ∘ mark, fun e => ?_, by rw [kq, hq, List.map_map]⟩
  rw [Function.comp_apply, km, hm]

/-! ### The lookups at the end -/

/-- The lookups of a teardown change the aperture table, the list of failed lookups and what reporting changes. -/
structure Looked (s t : State) : Prop where
  steady : Steady s t
  holds : t.holds = s.holds
  banks : t.banks = s.banks
  mgmt : t.mgmt = s.mgmt

theorem looked_lookupDrained (s : State) (i : ApIndex) : Looked s (s.lookupDrained State.parityDefer i) := by
  have told := reports_offer s (tableParity i)
  have freed := reports_raiseFreed (s.modEntry i freedEntry) (s.entry i).portMask i
  obtain ⟨holds, banks, mgmt⟩ : (s.lookupDrained State.parityDefer i).holds = s.holds ∧
      (s.lookupDrained State.parityDefer i).banks = s.banks ∧ (s.lookupDrained State.parityDefer i).mgmt = s.mgmt := by
    unfold State.lookupDrained State.parityDefer State.freeEntry
    split
    · split
      · exact ⟨told.holds, told.banks, told.mgmt⟩
      · exact ⟨rfl, rfl, rfl⟩
    · split
      · exact ⟨freed.holds, freed.banks, freed.mgmt⟩
      · exact ⟨rfl, rfl, rfl⟩
  exact ⟨steady_lookupDrained steady_parityDefer s i, holds, banks, mgmt⟩

theorem Looked.refl (s : State) : Looked s s := ⟨.refl s, rfl, rfl, rfl⟩

theorem Looked.trans {a b c : State} (h : Looked a b) (k : Looked b c) : Looked a c :=
  ⟨h.steady.trans k.steady, k.holds.trans h.holds, k.banks.trans h.banks, k.mgmt.trans h.mgmt⟩

theorem Looked.hold {s t : State} (h : Looked s t) (i : HoldId) : t.hold i = s.hold i := by
  unfold State.hold; rw [h.holds]

theorem Looked.bank {s t : State} (h : Looked s t) (b : BankId) : t.bank b = s.bank b := by
  unfold State.bank; rw [h.banks]

theorem looked_lookups (list : List ApIndex) (s : State) : Looked s (list.foldl (State.lookupDrained State.parityDefer) s) :=
  List.foldlRecOn (motive := Looked s) _ _ (.refl s) fun _ h _ _ => h.trans (looked_lookupDrained ..)

/-- An entry after the lookups of a teardown: freed where it is RETIRING and its index was looked up, and else as before. -/
theorem entry_lookups (list : List ApIndex) (s : State) (j : ApIndex) :
    (list.foldl (State.lookupDrained State.parityDefer) s).entry j = s.entry j ∨
      ((list.foldl (State.lookupDrained State.parityDefer) s).entry j = freedEntry (s.entry j) ∧
        (s.entry j).state = .retiring ∧ j ∈ list) := by
  refine List.foldlRecOn (motive := fun (t : State) => t.entry j = s.entry j ∨
    (t.entry j = freedEntry (s.entry j) ∧ (s.entry j).state = .retiring ∧ j ∈ list)) _ _ (.inl rfl) fun t h i mem => ?_
  unfold State.lookupDrained
  by_cases bad : (t.entry i).parityBad = true
  · have same : (t.parityDefer i).entry j = t.entry j := by
      unfold State.parityDefer
      split
      · exact (reports_offer ..).entry j
      · rfl
    rw [if_pos bad, same]
    exact h
  · rw [if_neg bad]
    split
    · next retiring =>
      have entry : (t.freeEntry i).entry j = if i = j then freedEntry (t.entry i) else t.entry j := by
        rw [State.freeEntry, (reports_raiseFreed ..).entry, State.entry_modEntry]
      rw [entry]
      by_cases e : i = j
      · subst e
        rcases h with h | ⟨h, -, -⟩
        · rw [if_pos rfl, ← h]
          exact .inr ⟨rfl, retiring, mem⟩
        · rw [h] at retiring
          exact absurd retiring (by simp [freedEntry])
      · rw [if_neg e]
        exact h
    · exact h

/-! ### Teardown -/

/-- The link of a port after a teardown: stopped or trained afresh, its replay buffer emptied (R20, R22). -/
def linkAfter (cause : Teardown) (port : Port) : Link := emptyReplay (tornLink cause port.config.enabled port.link)

/-- The port that is torn down, its link and slots included. -/
def portAfter (cause : Teardown) (port : Port) : Port :=
  { emptyPort port with link := linkAfter cause port, slots := Vector.replicate 8 .empty }

/-- What a teardown of port `p` does to each part of the state (R20). -/
structure Torn (p : PortId) (cause : Teardown) (s t : State) : Prop where
  device : t.device = s.device
  active : t.active = s.active
  own : PortKept (portAfter cause (s.port p)) (t.port p)
  others : ∀ q, q ≠ p → PortKept (s.port q) (t.port q)
  hold : ∀ h, t.hold h = if (s.hold h).any (fun hold => decide (hold.owner = p)) then none else s.hold h
  bank : ∀ b, BankTorn p (s.bank b) (t.bank b)
  mgmt : t.mgmt = removeCommands p s.mgmt

/-- The state after steps 1 to 5 of a teardown, before the new attempts that the removals prompt. -/
def State.emptied (s : State) (p : PortId) (cause : Teardown) : State :=
  let linked := s.modLink p (tornLink cause (s.port p).config.enabled)
  (((linked.mapBanks (tornBank p)).dropEntries (s.leavingEntries p)).1.modPort p emptyPort).modLink p emptyReplay

theorem leavingEntries_modLink (s : State) (p q : PortId) (f : Link → Link) :
    (s.modLink p f).leavingEntries q = s.leavingEntries q := rfl

theorem teardownQueues_fst (s : State) (p : PortId) (cause : Teardown) : (s.teardownQueues p cause).1 =
    if (s.leavingEntries p).isEmpty then s.emptied p cause else (s.emptied p cause).promptAttempts := rfl

theorem teardownQueues_snd (s : State) (p : PortId) (cause : Teardown) : (s.teardownQueues p cause).2 =
    (((s.modLink p (tornLink cause (s.port p).config.enabled)).mapBanks (tornBank p)).dropEntries (s.leavingEntries p)).2 :=
  rfl

/-- Steps 1 to 5 leave the banks as `tornBank` makes them, and change nothing else but ports, entries and waited ticks. -/
theorem emptied_eq (s : State) (p : PortId) (cause : Teardown) : ∃ table ports ticks, s.emptied p cause =
    { s.mapBanks (tornBank p) with apertures := table, ports := ports, ticksDue := ticks } := by
  obtain ⟨table, e⟩ := dropEntries_eq (s.leavingEntries p)
    ((s.modLink p (tornLink cause (s.port p).config.enabled)).mapBanks (tornBank p))
  exact ⟨table, _, _, congrArg (fun dropped : State => (dropped.modPort p emptyPort).modLink p emptyReplay) e⟩

theorem port_emptied (s : State) (p : PortId) (cause : Teardown) (q : PortId) : (s.emptied p cause).port q =
    if p = q then { emptyPort (s.port p) with link := linkAfter cause (s.port p) } else s.port q := by
  have dropped : ∀ r, ((((s.modLink p (tornLink cause (s.port p).config.enabled)).mapBanks (tornBank p)).dropEntries
      (s.leavingEntries p)).1).port r = (s.modLink p (tornLink cause (s.port p).config.enabled)).port r := by
    obtain ⟨table, e⟩ := dropEntries_eq (s.leavingEntries p)
      ((s.modLink p (tornLink cause (s.port p).config.enabled)).mapBanks (tornBank p))
    intro r; rw [e]; rfl
  change (((State.dropEntries _ (s.leavingEntries p)).1.modPort p emptyPort).modLink p emptyReplay).port q = _
  rw [State.port_modLink, State.link, State.port_modPort_same, dropped, State.port_modLink, if_pos rfl]
  split
  · rfl
  · next other => rw [State.port_modPort_other _ _ other, dropped, State.port_modLink, if_neg other]

theorem emptied_entry (s : State) (p : PortId) (cause : Teardown) (i : ApIndex) : (s.emptied p cause).entry i =
    { s.entry i with inFlight := (s.entry i).inFlight - countOf i (s.leavingEntries p) } := by
  rw [State.emptied, State.entry_modLink, State.entry_modPort, entry_dropEntries]
  rfl

/-- The state after step 6 of a teardown, the slots emptied. -/
def State.unbound (s : State) (p : PortId) (cause : Teardown) : State :=
  allSlots.foldl (fun (s : State) (k : SlotId) => s.setSlot p k .empty) (s.teardownQueues p cause).1

theorem teardownCore_eq (s : State) (p : PortId) (cause : Teardown) : s.teardownCore p cause =
    (s.teardownQueues p cause).2.foldl (State.lookupDrained State.parityDefer)
      (((((s.unbound p cause).endHolds .teardown fun hold => decide (hold.owner = p)).modMgmt
        (removeCommands p))).teardownRecord p cause) := rfl

theorem setSlots_all_empty (slots : Vector Slot 8) :
    allSlots.foldl (fun (all : Vector Slot 8) (k : SlotId) => all.set k .empty) slots = Vector.replicate 8 .empty := by
  ext k hk
  simp only [allSlots, List.foldl_cons, List.foldl_nil, Vector.getElem_set, Vector.getElem_replicate]
  interval_cases k <;> rfl

theorem unbound_eq (s : State) (p : PortId) (cause : Teardown) : ∃ table ports ticks, s.unbound p cause =
    { s.mapBanks (tornBank p) with apertures := table, ports := ports, ticksDue := ticks } := by
  obtain ⟨table, e⟩ := setSlots_eq p .empty allSlots (s.teardownQueues p cause).1
  obtain ⟨_, _, _, emptied⟩ := emptied_eq s p cause
  rw [State.unbound, e, teardownQueues_fst, emptied]
  split <;> exact ⟨_, _, _, rfl⟩

theorem port_unbound (s : State) (p : PortId) (cause : Teardown) (q : PortId) :
    PortKept (if p = q then portAfter cause (s.port p) else s.port q) ((s.unbound p cause).port q) := by
  have prompted : PortKept ((s.emptied p cause).port q) ((s.teardownQueues p cause).1.port q) := by
    rw [teardownQueues_fst]
    split
    · exact .refl _
    · exact (steady_promptAttempts _).ports q
  obtain ⟨table, e⟩ := setSlots_eq p .empty allSlots (s.teardownQueues p cause).1
  rw [State.unbound, e, State.port_modPort, setSlots_all_empty]
  rw [port_emptied] at prompted
  split at prompted
  · next same =>
    subst same
    rw [if_pos rfl, if_pos rfl]
    change PortKept _ { (s.teardownQueues p cause).1.port p with slots := Vector.replicate 8 .empty }
    rw [prompted]; rfl
  · next other => rw [if_neg other, if_neg other]; exact prompted

theorem reports_teardownRecord (s : State) (p : PortId) (cause : Teardown) : Reports s (s.teardownRecord p cause) := by
  cases cause
  case linkFailure => exact reports_offer ..
  case hostReset => exact reports_offer ..
  all_goals exact .refl _

/-- What a teardown does (R20). -/
theorem torn_teardownCore (s : State) (p : PortId) (cause : Teardown) : Torn p cause s (s.teardownCore p cause) := by
  obtain ⟨_, _, _, e⟩ := unbound_eq s p cause
  have freed := steady_endHolds (s.unbound p cause) .teardown fun hold => decide (hold.owner = p)
  have tables := tables_endHolds (s.unbound p cause) .teardown fun hold => decide (hold.owner = p)
  have recorded := reports_teardownRecord (((s.unbound p cause).endHolds .teardown fun hold =>
    decide (hold.owner = p)).modMgmt (removeCommands p)) p cause
  have looked := looked_lookups (s.teardownQueues p cause).2 (((s.unbound p cause).endHolds .teardown fun hold =>
    decide (hold.owner = p)).modMgmt (removeCommands p) |>.teardownRecord p cause)
  have steady := (freed.trans (steady_modMgmt _ (removeCommands p))).trans (recorded.steady.trans looked.steady)
  rw [teardownCore_eq]
  refine ⟨?_, ?_, ?_, fun q other => ?_, fun h => ?_, fun b => ?_, ?_⟩
  · rw [steady.device, e]; rfl
  · rw [steady.active, e]; rfl
  · have port := port_unbound s p cause p
    rw [if_pos rfl] at port
    exact port.trans (steady.ports p)
  · have port := port_unbound s p cause q
    rw [if_neg other.symm] at port
    exact port.trans (steady.ports q)
  · have ended := hold_endHolds (s.unbound p cause) .teardown (fun hold => decide (hold.owner = p)) h
    have same : (s.unbound p cause).hold h = s.hold h := by rw [e]; rfl
    rw [same] at ended
    rw [looked.hold, recorded.hold, State.hold_modMgmt]
    exact ended
  · have torn : BankTorn p (s.bank b) ((s.unbound p cause).bank b) := by
      rw [e]
      change BankTorn p (s.bank b) ((s.mapBanks (tornBank p)).bank b)
      rw [State.bank_mapBanks]; exact bankTorn_tornBank ..
    have moved := reparked_endHolds (s.unbound p cause) .teardown (fun hold => decide (hold.owner = p)) b
    rw [looked.bank, recorded.bank, State.bank_modMgmt]
    exact torn.repark moved
  · have same : (s.unbound p cause).mgmt = s.mgmt := by rw [e]; rfl
    rw [looked.mgmt, recorded.mgmt, State.modMgmt_mgmt, tables.mgmt, same]

end Sys2Proof.Machine
end

section
/-! Entry to READY and to HALTED: the enabled links that are DOWN train, and nothing else changes but what reporting changes. -/

namespace Sys2Proof.Machine

/-- The port differs in nothing but its events and its link, which may have begun fresh training from DOWN. -/
structure PortTrained (before after : Port) : Prop where
  rest : after = { before with link := after.link, events := after.events, eventsLost := after.eventsLost }
  link : after.link = before.link ∨ (before.link.state = .down ∧ after.link = beginFresh before.link)

theorem PortTrained.refl (port : Port) : PortTrained port port := ⟨rfl, .inl rfl⟩

theorem PortTrained.trans {a b c : Port} (h : PortTrained a b) (k : PortTrained b c) : PortTrained a c := by
  refine ⟨by rw [k.rest, h.rest], ?_⟩
  rcases k.link with same | ⟨down, trained⟩
  · rw [same]; exact h.link
  · rcases h.link with same | ⟨-, fresh⟩
    · rw [← same]; exact .inr ⟨down, trained⟩
    · rw [fresh] at down; exact absurd down (by simp [beginFresh])

theorem PortReports.trained {a b : Port} (h : PortReports a b) : PortTrained a b := by
  unfold PortReports at h
  exact ⟨by rw [h], .inl (by rw [h])⟩

/-- What entry to READY or HALTED can change: the device state, the links as `PortTrained` says, and what reporting changes. -/
structure Trained (s t : State) : Prop where
  active : t.active = s.active
  apertures : t.apertures = s.apertures
  holds : t.holds = s.holds
  banks : t.banks = s.banks
  mgmt : t.mgmt = s.mgmt
  ports : ∀ p, PortTrained (s.port p) (t.port p)

theorem Trained.refl (s : State) : Trained s s := ⟨rfl, rfl, rfl, rfl, rfl, fun _ => .refl _⟩

theorem Trained.trans {a b c : State} (h : Trained a b) (k : Trained b c) : Trained a c :=
  ⟨k.active.trans h.active, k.apertures.trans h.apertures, k.holds.trans h.holds, k.banks.trans h.banks,
    k.mgmt.trans h.mgmt, fun p => (h.ports p).trans (k.ports p)⟩

theorem Reports.trained {s t : State} (h : Reports s t) : Trained s t :=
  ⟨h.active, h.apertures, h.holds, h.banks, h.mgmt, fun p => (h.ports p).trained⟩

theorem Trained.entry {s t : State} (h : Trained s t) (i : ApIndex) : t.entry i = s.entry i := by
  unfold State.entry; rw [h.apertures]

theorem Trained.bank {s t : State} (h : Trained s t) (b : BankId) : t.bank b = s.bank b := by
  unfold State.bank; rw [h.banks]

theorem Trained.hold {s t : State} (h : Trained s t) (i : HoldId) : t.hold i = s.hold i := by
  unfold State.hold; rw [h.holds]

theorem Trained.config {s t : State} (h : Trained s t) (p : PortId) : (t.port p).config = (s.port p).config := by
  rw [(h.ports p).rest]

theorem Trained.egress {s t : State} (h : Trained s t) (p : PortId) : (t.port p).egress = (s.port p).egress := by
  rw [(h.ports p).rest]

theorem Trained.tagHolder {s t : State} (h : Trained s t) (p : PortId) (tag : Tag) :
    t.tagHolder p tag = s.tagHolder p tag := by rw [State.tagHolder, (h.ports p).rest]; rfl

theorem Trained.slot {s t : State} (h : Trained s t) (p : PortId) (k : SlotId) : t.slot p k = s.slot p k := by
  rw [State.slot, (h.ports p).rest]; rfl

/-- A link that is not DOWN is left as it is. -/
theorem Trained.link_of_up {s t : State} (h : Trained s t) {p : PortId} (up : (s.link p).state ≠ .down) :
    t.link p = s.link p := (h.ports p).link.resolve_right fun trained => up trained.1

theorem trained_foldl {α : Type} {f : State → α → State} (h : ∀ s a, Trained s (f s a)) (list : List α) (s : State) :
    Trained s (list.foldl f s) :=
  List.foldlRecOn (motive := Trained s) _ _ (.refl s) fun _ k _ _ => k.trans (h _ _)

/-- The links after the enabled ones that are DOWN have begun to train (R11, R18). -/
theorem link_trainEnabled (s : State) (p : PortId) : s.trainEnabled.link p =
    if (s.port p).config.enabled = true ∧ (s.link p).state = .down then beginFresh (s.link p) else s.link p := by
  have config : ∀ (t : State) (q r : PortId) (f : Link → Link), ((t.modLink q f).port r).config = (t.port r).config := by
    intro t q r f; rw [State.port_modLink]; split
    · next e => subst e; rfl
    · rfl
  have fold : ∀ (list : List PortId) (t : State), list.Nodup → (list.foldl (fun (t : State) (q : PortId) =>
      if (t.port q).config.enabled && decide ((t.link q).state = .down) then t.modLink q beginFresh else t) t).link p =
        if p ∈ list ∧ (t.port p).config.enabled = true ∧ (t.link p).state = .down then beginFresh (t.link p)
        else t.link p := by
    intro list
    induction list with
    | nil => simp
    | cons q rest ih =>
      intro t nodup
      obtain ⟨fresh, nodup⟩ := List.nodup_cons.1 nodup
      rw [List.foldl_cons, ih _ nodup]
      by_cases met : ((t.port q).config.enabled && decide ((t.link q).state = .down)) = true
      · rw [if_pos met, config, State.link_modLink]
        by_cases same : q = p
        · subst same
          simp only [Bool.and_eq_true, decide_eq_true_eq] at met
          simp [fresh, met]
        · simp [same, Ne.symm same]
      · rw [if_neg met]
        by_cases same : q = p
        · subst same
          simp only [Bool.and_eq_true, decide_eq_true_eq] at met
          simp [met]
        · simp [Ne.symm same]
  simpa [State.trainEnabled] using fold allPorts s (by decide)

theorem trained_trainEnabled (s : State) : Trained s s.trainEnabled := by
  refine trained_foldl (fun t p => ?_) _ _
  split
  · next met =>
    simp only [Bool.and_eq_true, decide_eq_true_eq] at met
    refine ⟨rfl, rfl, rfl, rfl, rfl, fun q => ?_⟩
    rw [State.port_modLink]
    split
    · next e => subst e; exact ⟨rfl, .inr ⟨met.2, rfl⟩⟩
    · exact .refl _
  · exact .refl _

@[simp] theorem trainEnabled_device (s : State) : s.trainEnabled.device = s.device := by
  refine List.foldlRecOn (motive := fun (t : State) => t.device = s.device) _ _ rfl fun t h p _ => ?_
  split
  · exact h
  · exact h

theorem trained_setDevice (s : State) (d : DevState) : Trained s (s.setDevice d) :=
  ⟨rfl, rfl, rfl, rfl, rfl, fun _ => .refl _⟩

theorem trained_enterReady (s : State) : Trained s s.enterReady :=
  ((trained_setDevice s .ready).trans (trained_trainEnabled _)).trans (reports_raiseDeviceState ..).trained

@[simp] theorem enterReady_device (s : State) : s.enterReady.device = .ready := by
  rw [State.enterReady, (reports_raiseDeviceState ..).device, trainEnabled_device]; rfl

theorem link_enterReady (s : State) (p : PortId) : s.enterReady.link p =
    if (s.port p).config.enabled = true ∧ (s.link p).state = .down then beginFresh (s.link p) else s.link p := by
  rw [State.enterReady, (reports_raiseDeviceState ..).link, link_trainEnabled]; rfl

theorem trained_enterHalted (s : State) (cause : Offer) : Trained s (s.enterHalted cause) :=
  (((trained_setDevice s .halted).trans (reports_offer ..).trained).trans (trained_trainEnabled _)).trans
    (reports_raiseDeviceState ..).trained

@[simp] theorem enterHalted_device (s : State) (cause : Offer) : (s.enterHalted cause).device = .halted := by
  rw [State.enterHalted, (reports_raiseDeviceState ..).device, trainEnabled_device, (reports_offer ..).device]; rfl

theorem link_enterHalted (s : State) (cause : Offer) (p : PortId) : (s.enterHalted cause).link p =
    if (s.port p).config.enabled = true ∧ (s.link p).state = .down then beginFresh (s.link p) else s.link p := by
  have told := reports_offer (s.setDevice .halted) cause
  have config : (((s.setDevice .halted).offer cause).port p).config = (s.port p).config := by rw [told.ports p]; rfl
  rw [State.enterHalted, (reports_raiseDeviceState ..).link, link_trainEnabled, told.link, config]; rfl

theorem trained_parityFail (s : State) (i : ApIndex) : Trained s (s.parityFail i) := by
  unfold State.parityFail
  split
  · exact (reports_offer ..).trained
  · exact trained_enterHalted ..

/-- After a lookup that fails the device is HALTED (R84, R86). -/
@[simp] theorem parityFail_device (s : State) (i : ApIndex) : (s.parityFail i).device = .halted := by
  unfold State.parityFail
  split
  · next halted => rw [(reports_offer ..).device, halted]
  · exact enterHalted_device ..

theorem trained_finishParity (s : State) : Trained s s.finishParity :=
  Trained.trans (b := { s with parityPending := [] }) ⟨rfl, rfl, rfl, rfl, rfl, fun _ => .refl _⟩
    (trained_foldl trained_parityFail _ _)

/-- Where no lookup failed, the end of an event does nothing more (R85). -/
theorem finishParity_of_settled {s : State} (h : s.ParitySettled) : s.finishParity = s := by
  unfold State.finishParity
  rw [h]
  change { s with parityPending := [] } = s
  rw [← h]

/-- The end of an event leaves the device state as it is or takes it to HALTED (R85). -/
theorem finishParity_device (s : State) : s.finishParity.device = s.device ∨ s.finishParity.device = .halted :=
  List.foldlRecOn (motive := fun (t : State) => t.device = s.device ∨ t.device = .halted) _ _ (.inl rfl)
    fun _ _ _ _ => .inr (parityFail_device ..)

end Sys2Proof.Machine
end

section
/-! HALTED is left by RESET_N alone, and links are DOWN where none runs: what each operation does to the device state and to the
links that are DOWN (R6, R17, R19, R29). -/

namespace Sys2Proof.Machine


/-! ### The two relations -/

/-- The device state is as before, and every link that was DOWN is DOWN. -/
structure Still (s t : State) : Prop where
  device : t.device = s.device
  down : ∀ p, (s.link p).state = .down → (t.link p).state = .down

/-- The two invariants of the device state and the links are kept: links are DOWN where none runs (R6, R17, R29), and HALTED
is not left (R19). -/
structure Course (s t : State) : Prop where
  links : s.LinksDown → t.LinksDown
  halted : s.device = .halted → t.device = .halted

theorem Still.refl (s : State) : Still s s := ⟨rfl, fun _ => id⟩

theorem Still.trans {a b c : State} (h : Still a b) (k : Still b c) : Still a c :=
  ⟨k.device.trans h.device, fun p => k.down p ∘ h.down p⟩

theorem Course.refl (s : State) : Course s s := ⟨id, id⟩

theorem Course.trans {a b c : State} (h : Course a b) (k : Course b c) : Course a c :=
  ⟨k.links ∘ h.links, k.halted ∘ h.halted⟩

theorem Still.course {s t : State} (h : Still s t) : Course s t :=
  ⟨fun down stopped p => h.down p (down (h.device ▸ stopped) p), fun halted => h.device.trans halted⟩

/-- Entry to a state in which links run keeps the invariants, where HALTED is not left. -/
theorem course_of_linksRun {s t : State} (run : t.device.linksRun = true) (halted : s.device = .halted → t.device = .halted) :
    Course s t := ⟨fun _ stopped => absurd (run.symm.trans stopped) (by simp), halted⟩

theorem course_of_halted {s t : State} (h : t.device = .halted) : Course s t :=
  course_of_linksRun (by rw [h]; rfl) fun _ => h

theorem still_ite {c : Prop} [Decidable c] {s a b : State} (h : Still s a) (k : Still s b) :
    Still s (if c then a else b) := by
  split
  · exact h
  · exact k

theorem course_ite {c : Prop} [Decidable c] {s a b : State} (h : Course s a) (k : Course s b) :
    Course s (if c then a else b) := by
  split
  · exact h
  · exact k

theorem still_foldl {α : Type} {f : State → α → State} (h : ∀ s a, Still s (f s a)) (list : List α) (s : State) :
    Still s (list.foldl f s) :=
  List.foldlRecOn (motive := Still s) _ _ (.refl s) fun _ k _ _ => k.trans (h _ _)

theorem course_foldl {α : Type} {f : State → α → State} (h : ∀ s a, Course s (f s a)) (list : List α) (s : State) :
    Course s (list.foldl f s) :=
  List.foldlRecOn (motive := Course s) _ _ (.refl s) fun _ k _ _ => k.trans (h _ _)

theorem Steady.still {s t : State} (h : Steady s t) : Still s t := ⟨h.device, fun p down => by rw [h.link p, down]⟩

theorem Reports.still {s t : State} (h : Reports s t) : Still s t := h.steady.still

/-! ### Updates of the state -/

theorem still_of_ports {s t : State} (device : t.device = s.device) (ports : t.ports = s.ports) : Still s t :=
  ⟨device, fun p => by unfold State.link State.port; rw [ports]; exact id⟩

theorem still_tickDecisions (s : State) (due : Bool) : Still s { s with tickDecisions := due } := (still_of_ports (by rfl) (by rfl))

theorem still_modPort (s : State) (p : PortId) (f : Port → Port)
    (h : ∀ port, (f port).link = port.link) : Still s (s.modPort p f) := ⟨rfl, fun q => by rw [State.link_modPort s p q f h]; exact id⟩

theorem still_modLink {s : State} {p : PortId} {f : Link → Link}
    (h : (s.link p).state = .down → (f (s.link p)).state = .down) : Still s (s.modLink p f) := by
  refine ⟨rfl, fun q down => ?_⟩
  rw [State.link_modLink]
  split
  · next e => subst e; exact h down
  · exact down

/-- A change of a link that leaves its state. -/
theorem still_modLink_state (s : State) (p : PortId) {f : Link → Link}
    (h : ∀ link, (f link).state = link.state) : Still s (s.modLink p f) := still_modLink fun down => (h _).trans down

theorem still_modBank (s : State) (b : BankId) (f : Bank → Bank) : Still s (s.modBank b f) := (still_of_ports (by rfl) (by rfl))
theorem still_mapBanks (s : State) (f : Bank → Bank) : Still s (s.mapBanks f) := (still_of_ports (by rfl) (by rfl))
theorem still_modEntry (s : State) (i : ApIndex) (f : ApEntry → ApEntry) : Still s (s.modEntry i f) := (still_of_ports (by rfl) (by rfl))
theorem still_setHold (s : State) (h : HoldId) (e : Option Hold) : Still s (s.setHold h e) := (still_of_ports (by rfl) (by rfl))
theorem still_modMgmt (s : State) (f : Mgmt → Mgmt) : Still s (s.modMgmt f) := (still_of_ports (by rfl) (by rfl))
theorem still_modFaults (s : State) (f : FaultUnit → FaultUnit) : Still s (s.modFaults f) := (still_of_ports (by rfl) (by rfl))
theorem still_nextPlace (s : State) : Still s s.nextPlace := (still_of_ports (by rfl) (by rfl))
theorem still_setTag (s : State) (p : PortId) (t : Tag) (h : Option Holder) : Still s (s.setTag p t h) :=
  still_modPort _ _ _ (by intro; rfl)
theorem still_popHead (s : State) (p : PortId) : Still s (s.popHead p) := still_modPort _ _ _ (by intro; rfl)
theorem still_promptAttempts (s : State) : Still s s.promptAttempts := (steady_promptAttempts s).still
theorem still_offer (s : State) (fault : Offer) : Still s (s.offer fault) := (reports_offer s fault).still
theorem still_raise (s : State) (p : PortId) (e : Event) : Still s (s.raise p e) := (reports_raise s p e).still
theorem still_drive (s : State) (bytes : Option (List Byte)) : Still s (s.drive bytes) := still_modMgmt ..

theorem still_setHealth (s : State) (u : UnitAddr) (h : Health) : Still s (s.setHealth u h) := (still_of_ports (by rfl) (by rfl))

theorem still_setSlot (s : State) (p : PortId) (k : SlotId) (new : Slot) : Still s (s.setSlot p k new) := by
  obtain ⟨table, e⟩ := setSlot_eq s p k new
  rw [e]
  exact Still.trans (b := { s with apertures := table }) (still_of_ports (by rfl) (by rfl)) (still_modPort _ _ _ (by intro; rfl))

/-! ### Responses and requests -/

theorem still_respond (s : State) (p : PortId) (r : Response) : Still s (s.respond p r) :=
  still_ite (((still_setTag ..).trans (still_modPort _ _ _ (by intro; rfl))).trans (still_nextPlace _))
    (((still_setTag ..).trans (still_offer ..)).trans (still_raise ..))

theorem still_answer (s : State) (p : PortId) (r : Response) : Still s (s.answer p r) :=
  (still_popHead s p).trans (still_respond ..)

theorem still_fenceTest (s : State) (p : PortId) : Still s (s.fenceTest p) := still_ite (still_answer ..) (.refl _)

theorem still_answerOffer (s : State) (p : PortId) (r : Response) (fault : Offer) : Still s ((s.answer p r).offer fault) :=
  (still_answer ..).trans (still_offer ..)

theorem still_admission (s : State) (p : PortId) (header : Header) (body : List Byte) (transfer : Transfer)
    (parking : Option HoldId) : Still s (s.admission p header body transfer parking) :=
  ((((still_modBank ..).trans (still_modEntry ..)).trans (still_setTag ..)).trans (still_popHead ..)).trans (still_nextPlace _)

theorem still_waitSpace (s : State) (p : PortId) (tag : Tag) : Still s (s.waitSpace p tag) :=
  still_ite (.refl _) (((still_modPort _ _ _ (by intro; rfl)).trans (still_setTag ..)).trans (still_nextPlace _))

theorem still_attempt (s : State) (p : PortId) (body : List Byte) : Still s (s.attempt p body) := by
  unfold State.attempt
  dsimp only
  split
  · exact still_answerOffer ..
  · exact still_ite (still_answerOffer ..) (still_ite (still_admission ..) (still_waitSpace ..))

theorem still_reattempt (s : State) (p : PortId) : Still s (s.reattempt p) :=
  (still_modPort _ _ _ (by intro; rfl)).trans (still_attempt ..)

theorem still_endHold (s : State) (h : HoldId) (cause : HoldEnd) : Still s (s.endHold h cause) := (steady_endHold ..).still

theorem still_endHolds (s : State) (cause : HoldEnd) (which : Hold → Bool) : Still s (s.endHolds cause which) :=
  (steady_endHolds ..).still

theorem still_judgeHold (s : State) (p : PortId) (header : Header) (copy : SlotCopy) :
    Still s (s.judgeHold p header copy) := by
  have refused : ∀ status code unit, Still s (s.refuseHold p header copy status code unit) :=
    fun _ _ _ => still_answerOffer ..
  unfold State.judgeHold
  dsimp only
  refine still_ite (refused ..) (still_ite (refused ..) (still_ite (refused ..) (still_ite (refused ..)
    (still_ite (refused ..) ?_))))
  split
  · exact (still_setHold ..).trans (still_answer ..)
  · exact refused ..

theorem still_takeHoldOpen (s : State) (p : PortId) (header : Header) : Still s (s.takeHoldOpen p header) := by
  unfold State.takeHoldOpen
  split
  · exact still_answerOffer ..
  · exact still_ite (still_answerOffer ..) (still_judgeHold ..)

theorem still_takeHoldRelease (s : State) (p : PortId) (header : Header) : Still s (s.takeHoldRelease p header) :=
  still_ite ((still_endHold ..).trans (still_answer ..)) (still_answerOffer ..)

theorem still_takeFence (s : State) (p : PortId) (header : Header) : Still s (s.takeFence p header) :=
  still_ite (still_answer ..) ((still_modPort _ _ _ (by intro; rfl)).trans (still_setTag ..))

theorem still_takeMgmt (s : State) (p : PortId) (header : Header) (body : List Byte) :
    Still s (s.takeMgmt p header body) :=
  still_ite (still_answerOffer ..) (still_ite (still_answerOffer ..) (still_ite (still_answer ..)
    ((((still_modMgmt ..).trans (still_setTag ..)).trans (still_popHead ..)).trans (still_nextPlace _))))

/-! ### Links -/

theorem queueNak_state (link : Link) : (queueNak link).state = link.state := by unfold queueNak; split <;> rfl

theorem takeMalformed_state (link : Link) : (takeMalformed link).state = link.state := by
  unfold takeMalformed
  dsimp only
  split <;> split <;> simp [queueNak_state]

theorem removeAcked_state (link : Link) (ack : Seq) : (removeAcked link ack).state = link.state := by
  unfold removeAcked; dsimp only; split <;> rfl

theorem retransmitLink_state (link : Link) : (retransmitLink link).state = link.state := by
  unfold retransmitLink; split <;> rfl

theorem still_removeAcked (s : State) (p : PortId) (ack : Seq) :
    Still s (s.modLink p fun link => removeAcked link ack) :=
  still_modLink_state (h := fun _ => removeAcked_state ..) ..

theorem still_processAck (s : State) (p : PortId) (ack : Seq) : Still s (s.processAck p ack) :=
  still_ite (still_removeAcked ..) (still_offer ..)

/-- Only a link that is not DOWN enters RETRAIN (R33). -/
theorem still_enterRetrain {s : State} {p : PortId} (up : (s.link p).state ≠ .down) (cause : FaultCode) :
    Still s (s.enterRetrain p cause) := (still_modLink fun down => absurd down up).trans (still_offer ..)

theorem still_replayDue {s : State} {p : PortId} (up : (s.link p).state ≠ .down) : Still s (s.replayDue p) :=
  still_ite (still_modLink_state _ _ (by intro; rfl)) (still_enterRetrain up _)

/-- Training completes only in TRAINING and RETRAIN (R31, R34). -/
theorem still_trainingTest (s : State) (p : PortId) : Still s (s.trainingTest p) := by
  unfold State.trainingTest
  dsimp only
  refine still_ite ?_ (.refl _)
  split
  · next training => exact still_modLink fun down => absurd (training.symm.trans down) (by simp)
  · next retrain =>
    have up : ¬(s.link p).state = .down := by rw [retrain]; simp
    split
    · exact still_ite (still_modLink fun down => absurd down up)
        ((still_modLink fun down => absurd down up).trans (still_offer ..))
    · exact still_modLink fun down => absurd down up
  · exact .refl _

theorem still_acceptFreshRequest (s : State) (p : PortId) : Still s (s.acceptFreshRequest p) :=
  (still_modLink_state _ _ (by intro; rfl)).trans (still_trainingTest ..)

theorem still_acceptRetrainRequest (s : State) (p : PortId) (ack : Seq) : Still s (s.acceptRetrainRequest p ack) :=
  (still_modLink_state _ _ (by intro; rfl)).trans (still_trainingTest ..)

theorem still_retrainRequest (s : State) (p : PortId) (ack : Seq) : Still s (s.retrainRequest p ack) := by
  unfold State.retrainRequest
  split
  · next active =>
    have up : (s.link p).state ≠ .down := by rw [active]; simp
    exact (still_enterRetrain up _).trans (still_acceptRetrainRequest ..)
  · exact still_acceptRetrainRequest ..
  all_goals exact .refl _

theorem still_trainAnswer (s : State) (p : PortId) (fresh : Bool) (ack : Seq) : Still s (s.trainAnswer p fresh ack) := by
  unfold State.trainAnswer
  split
  · exact (still_modLink_state _ _ (by intro; rfl)).trans (still_trainingTest ..)
  · exact (still_modLink_state _ _ (by intro; rfl)).trans (still_trainingTest ..)
  · exact .refl _

theorem still_sendParcel (s : State) (p : PortId) (kind : SendKind) : Still s (s.sendParcel p kind) := by
  have taken : ∀ port, (takeBody port).link = port.link := by intro port; unfold takeBody; split <;> rfl
  cases kind
  case newData => exact (still_modPort (h := taken) ..).trans (still_modLink_state _ _ (by intro; rfl))
  case retransmit => exact still_modLink_state (h := retransmitLink_state) ..
  all_goals exact still_modLink_state _ _ (by intro; rfl)

theorem still_sendOf (s : State) (p : PortId) (kind : SendKind) : Still s (s.sendOf p kind) :=
  still_ite (still_sendParcel ..) (.refl _)

theorem still_replayFrom {s : State} {p : PortId} (up : (s.link p).state ≠ .down) (ack : Seq) :
    Still s (s.replayFrom p ack) := by
  have removed := still_removeAcked s p ack
  have kept : ((s.modLink p fun link => removeAcked link ack).link p).state ≠ .down := by
    rw [State.link_modLink_same, removeAcked_state]; exact up
  exact still_ite removed (removed.trans (still_replayDue kept))

theorem still_acceptExpected (s : State) (p : PortId) (body : List Byte) : Still s (s.acceptExpected p body) :=
  still_ite ((still_modPort _ _ _ (by intro; rfl)).trans (still_modLink_state _ _ (by intro; rfl))) (still_offer ..)

theorem still_classify (s : State) (p : PortId) (seq : Seq) (body : List Byte) : Still s (s.classify p seq body) :=
  still_ite (still_acceptExpected ..)
    (still_ite (still_modLink_state _ _ (by intro; rfl)) (still_modLink_state (h := queueNak_state) ..))

/-! ### Device states -/

theorem course_enterReady {s : State} (h : s.device ≠ .halted) : Course s s.enterReady :=
  course_of_linksRun (by rw [enterReady_device]; rfl) fun halted => absurd halted h

theorem course_parityFail (s : State) (i : ApIndex) : Course s (s.parityFail i) := course_of_halted (parityFail_device s i)

theorem course_finishParity (s : State) : Course s s.finishParity :=
  Course.trans (b := { s with parityPending := [] }) ((still_of_ports (by rfl) (by rfl))).course (course_foldl course_parityFail _ _)

/-- The causes of a teardown that leave the link DOWN, or FAILED where it was (R22). -/
def Teardown.stops : Teardown → Bool
  | .disable | .quiesce | .portReset => true
  | .linkFailure | .hostReset | .datapathReset => false

/-- A teardown keeps the invariants where links run, or where it stops the link (R20, R22, R29). -/
theorem course_teardownCore {s : State} {cause : Teardown} (h : s.device.linksRun = true ∨ cause.stops = true) (p : PortId) :
    Course s (s.teardownCore p cause) := by
  have torn := torn_teardownCore s p cause
  rcases h with run | stops
  · exact course_of_linksRun (by rw [torn.device, run]) fun halted => torn.device.trans halted
  · refine Still.course ⟨torn.device, fun q down => ?_⟩
    by_cases same : q = p
    · subst same
      have link : (s.teardownCore q cause).link q = linkAfter cause (s.port q) := by rw [State.link, torn.own]; rfl
      have stopped : ((s.port q).link).state = .down := down
      rw [link]
      cases cause <;> simp_all [Teardown.stops, linkAfter, emptyReplay, tornLink, stopLink]
    · rw [State.link, torn.others q same]; exact down

/-- After the teardowns of a QUIESCE drain every link is DOWN (R14, R29). -/
theorem link_quiesced (list : List PortId) : ∀ (s : State), (∀ p, (s.link p).state = .down ∨ p ∈ list) → ∀ p,
    ((list.foldl (fun (s : State) (p : PortId) => s.teardownCore p .quiesce) s).link p).state = .down := by
  induction list with
  | nil => intro s h p; simpa using h p
  | cons q rest ih =>
    intro s h p
    refine ih (s.teardownCore q .quiesce) (fun r => ?_) p
    have torn := torn_teardownCore s q .quiesce
    by_cases same : r = q
    · subst same
      left
      rw [State.link, torn.own]; rfl
    · rw [State.link, torn.others r same]
      exact (h r).imp id fun mem => (List.mem_cons.1 mem).resolve_left same

theorem course_completeDrain (s : State) : Course s s.completeDrain := by
  unfold State.completeDrain
  split
  · next next draining =>
    exact course_of_linksRun (by rw [enterReady_device]; rfl) fun halted => absurd (draining.symm.trans halted) (by simp)
  · next draining =>
    exact ⟨fun _ _ => link_quiesced _ _ fun _ => .inr (mem_allPorts _),
      fun halted => absurd (draining.symm.trans halted) (by simp)⟩
  · exact .refl _

theorem course_drainTest (s : State) : Course s s.drainTest := course_ite (course_completeDrain s) (.refl _)

theorem course_drainEvent (s : State) : Course s s.drainEvent :=
  course_ite ((course_completeDrain s).trans (course_finishParity _)) (.refl _)

theorem course_teardown {s : State} {cause : Teardown} (h : s.device.linksRun = true ∨ cause.stops = true) (p : PortId) :
    Course s (s.teardown p cause) := (course_teardownCore h p).trans (course_drainTest _)

theorem course_enterDraining {s : State} (h : s.device ≠ .halted) (reason : Drain) : Course s (s.enterDraining reason) := by
  refine Course.trans (b := s.setDevice (.draining reason)) (course_of_linksRun rfl fun halted => absurd halted h) ?_
  exact ((still_endHolds ..).trans (reports_raiseDeviceState ..).still).course.trans (course_drainTest _)

theorem course_lookupDrained (s : State) (i : ApIndex) : Course s (s.lookupDrained State.parityFail i) :=
  course_ite (course_parityFail ..) (course_ite (steady_freeEntry ..).still.course (.refl _))

/-- A link that is not DOWN stands in a state in which links run (R6, R17). -/
theorem linksRun_of_up {s : State} (h : s.LinksDown) {p : PortId} (up : (s.link p).state ≠ .down) :
    s.device.linksRun = true := by
  by_contra stopped
  exact up (h (by simpa using stopped) p)

/-- A teardown of a port whose link is not DOWN keeps the invariants, whatever its cause. -/
theorem course_teardown_of_up {s : State} {p : PortId} (up : (s.link p).state ≠ .down) (cause : Teardown) :
    Course s (s.teardown p cause) := by
  by_cases down : s.LinksDown
  · exact course_teardown (.inl (linksRun_of_up down up)) p
  · refine ⟨fun h => absurd h down, fun halted => ?_⟩
    exact (course_teardown (.inl (by rw [halted]; rfl)) p).halted halted

/-! ### Takings -/

theorem course_takeBind (s : State) (p : PortId) (header : Header) : Course s (s.takeBind p header) := by
  have refused : ∀ status code, Course s (s.refuseBind p header status code) := fun _ _ => (still_answerOffer ..).course
  exact course_ite ((still_setSlot ..).trans (still_answer ..)).course
    (course_ite ((course_parityFail ..).trans (still_answer ..).course)
      (course_ite (refused ..) (course_ite (refused ..) (course_ite (refused ..)
        ((still_setSlot ..).trans (still_answer ..)).course))))

theorem course_takeKind (s : State) (p : PortId) (header : Header) (body : List Byte) :
    Course s (s.takeKind p header body) := by
  unfold State.takeKind
  split
  case h_5 => exact course_takeBind ..
  case h_6 => exact ((still_setSlot ..).trans (still_answer ..)).course
  case h_7 => exact (still_answer ..).course
  case h_8 => exact (still_takeHoldOpen ..).course
  case h_9 => exact (still_takeHoldRelease ..).course
  case h_10 => exact (still_takeFence ..).course
  case h_11 => exact (still_takeMgmt ..).course
  case h_12 => exact .refl _
  all_goals exact (still_attempt ..).course

theorem course_takeRequest (s : State) (p : PortId) (body : List Byte) : Course s (s.takeRequest p body) := by
  unfold State.takeRequest
  dsimp only
  refine course_ite (((still_popHead ..).trans (still_offer ..)).trans (still_raise ..)).course ?_
  split
  · exact (still_answer ..).course
  · exact course_ite (course_takeKind ..) (still_answerOffer ..).course

theorem course_takeHead (s : State) (p : PortId) : Course s (s.takeHead p) := by
  unfold State.takeHead
  split
  · exact .refl _
  · exact course_ite ((still_popHead ..).trans (still_offer ..)).course (course_takeRequest ..)

/-! ### The tick -/

theorem course_tickLink (s : State) (p : PortId) : Course s (s.tickLink p) := by
  unfold State.tickLink
  dsimp only
  split
  · next active =>
    have kept : ((s.modLink p fun link => { link with ackTimer := link.ackTimer + 1 }).link p).state ≠ .down := by
      rw [State.link_modLink_same]; simp [active]
    have counted : Still s (s.modLink p fun link => { link with ackTimer := link.ackTimer + 1 }) :=
      still_modLink_state _ _ (by intro; rfl)
    exact (still_ite (.refl _) (still_ite (counted.trans (still_replayDue kept)) counted)).course
  · exact (still_ite (still_modLink_state _ _ (by intro; rfl)) (still_modLink_state _ _ (by intro; rfl))).course
  · next retrain =>
    have kept : ((s.modLink p fun link => { link with trainTimer := link.trainTimer + 1 }).link p).state ≠ .down := by
      rw [State.link_modLink_same]; simp [retrain]
    have counted : Still s (s.modLink p fun link => { link with trainTimer := link.trainTimer + 1 }) :=
      still_modLink_state _ _ (by intro; rfl)
    exact course_ite (course_ite (still_modLink_state _ _ (by intro; rfl)).course
      (counted.course.trans (course_teardown_of_up kept _))) counted.course
  all_goals exact .refl _

theorem course_tickCalibration (s : State) : Course s s.tickCalibration := by
  unfold State.tickCalibration
  split
  · next h =>
    obtain ⟨calibrating, -⟩ := h
    exact ⟨fun down _ => down (by rw [calibrating]; rfl), fun halted => absurd (calibrating.symm.trans halted) (by simp)⟩
  · exact .refl _

theorem course_takeTick (s : State) : Course s s.takeTick := by
  have counted : Still s { s with tickCount := s.tickCount + 1, ticksDue := s.ticksDue.tail } := (still_of_ports (by rfl) (by rfl))
  have held : ∀ t : State, Still t t.tickHolds := fun t =>
    Still.trans (b := { t with holds := t.holds.map countHold }) (still_of_ports (by rfl) (by rfl)) (still_endHolds ..)
  have timed := (counted.trans (held _)).trans (still_mapBanks _ (tickBank s.active.refreshInterval))
  have linked := ((timed.course.trans (course_foldl course_tickLink allPorts _)).trans
    (course_tickCalibration _)).trans (course_finishParity _)
  exact linked.trans (still_tickDecisions ..).course

/-! ### Due events and settling -/

theorem course_decideBank (s : State) (b : BankId) : Course s (s.decideBank b) :=
  (Still.trans (still_modBank ..) (still_tickDecisions ..)).course

theorem course_runDue (s : State) (due : Due) : Course s (s.runDue due) := by
  cases due
  case attempt p => exact (still_reattempt ..).course.trans (course_drainEvent _)
  case take p => exact (course_takeHead ..).trans (course_drainEvent _)
  case drain => exact course_drainEvent s
  case tick => exact course_takeTick s
  case decide b => exact course_decideBank ..

theorem course_settleWhile (go : State → Due → Bool) (fuel : Nat) (s : State) : Course s (settleWhile go fuel s) :=
  settleWhile_induction (P := Course s) (fun _ _ _ k => k.trans (course_runDue ..)) go fuel s (.refl s)

theorem course_settle (s : State) : Course s s.settle := course_settleWhile ..

theorem course_prompted (s : State) (which : State → Due → Bool) : Course s (s.prompted which) :=
  prompted_induction (P := Course s) (fun _ _ _ k => k.trans (course_runDue ..)) which s (.refl s)

theorem still_fallDue (s : State) : Still s s.fallDue := still_ite (.refl _) ((still_of_ports (by rfl) (by rfl)))

theorem course_tickEvent (s : State) : Course s s.tickEvent := by
  have due : Course s s.settleTick.fallDue := (course_settleWhile ..).trans (still_fallDue _).course
  exact course_ite (due.trans (course_takeTick _)) due

theorem course_tickWhen (s : State) (condition : State → Bool) : Course s (s.tickWhen condition) := by
  have before : Course s s.settleTick := course_settleWhile ..
  exact course_ite (before.trans ((still_fallDue _).course.trans (course_takeTick _))) before

/-! ### Services -/

theorem still_writeUnit (s : State) (unit : UnitAddr) (data : List Byte) : Still s (s.writeUnit unit data) := by
  unfold State.writeUnit
  dsimp only
  split
  · exact still_ite (still_of_ports (by rfl) (by rfl)) ((still_of_ports (by rfl) (by rfl)))
  · exact (still_of_ports (by rfl) (by rfl))

theorem still_writeUnits : ∀ (units : List UnitAddr) (s : State) (data : List Byte), Still s (s.writeUnits units data)
  | [], s, _ => .refl s
  | unit :: rest, s, _ => (still_writeUnit s unit _).trans (still_writeUnits rest _ _)

theorem still_readUnits (b : BankId) (entry : Entry) (scrub log : Bool) : ∀ (units : List UnitAddr) (s : State),
    Still s (s.readUnits b entry scrub log units).1
  | [], s => .refl s
  | unit :: rest, s => by
    unfold State.readUnits
    split
    · exact still_readUnits b entry scrub log rest s
    · have counted : Still s (s.countCorrected b) := still_modBank ..
      exact (still_ite (counted.trans (still_setHealth ..)) counted).trans (still_readUnits b entry scrub log rest _)
    · exact still_readUnits b entry scrub log rest s

theorem still_serveModify (s : State) (b : BankId) (entry : Entry) (log : Bool)
    (change : List Byte → List Byte × Bool × List Byte) : Still s (s.serveModify b entry log change).state := by
  unfold State.serveModify
  dsimp only
  split
  · exact still_writeUnit ..
  · exact Still.trans (b := s.countCorrected b) (still_modBank ..) (still_writeUnit ..)
  · exact .refl _

theorem still_serve (s : State) (b : BankId) (entry : Entry) (scrub log : Bool) :
    Still s (s.serve b entry scrub log).state := by
  unfold State.serve
  split
  · have read := still_readUnits b entry scrub log (unitsFrom entry.unit entry.length) s
    unfold State.serveRead
    dsimp only
    split
    · exact read
    · exact read
  · exact still_writeUnits ..
  · exact still_serveModify ..
  · exact still_serveModify ..

theorem course_settleInFlight (s : State) (i : ApIndex) : Course s (s.settleInFlight i) := by
  have dropped : Course s (s.dropInFlight i) := (steady_dropInFlight ..).still.course
  exact course_ite (dropped.trans (course_lookupDrained ..)) dropped

theorem course_completeEntry (s : State) (b : BankId) (entry : Entry) (scrub log : Bool) :
    Course s (s.completeEntry b entry scrub log) := by
  have told := (still_serve s b entry scrub log).trans (reports_offerAll _ (s.serve b entry scrub log).offers).still
  have answered : Still s (((s.serve b entry scrub log).state.offerAll (s.serve b entry scrub log).offers).respondServed
      entry (s.serve b entry scrub log)) := told.trans (still_ite (.refl _) (still_respond ..))
  have left := ((answered.trans (still_modBank _ b (leaveQueue entry.position))).trans
    (still_fenceTest _ entry.port)).course
  exact Course.trans (course_ite left (left.trans (course_settleInFlight ..))) (still_promptAttempts _).course

theorem course_complete (s : State) (b : BankId) (kind : ServiceKind) : Course s (s.complete b kind) := by
  unfold State.complete
  split
  · exact course_ite (course_completeEntry ..) (.refl _)
  · exact .refl _

theorem course_completeClearing (s : State) (b : BankId) : Course s (s.completeClearing b) := by
  have idle : Still s ((s.clearUnits b (s.bank b).clearPosition).modBank b fun bank =>
      { bank with state := .idle, decisionDue := true }) := (still_of_ports (by rfl) (by rfl))
  unfold State.completeClearing
  dsimp only
  split
  · next initializing =>
    have counted := idle.trans (still_modBank _ b fun bank => { bank with clearPosition := bank.clearPosition + 1 })
    refine course_ite (counted.course.trans (course_enterReady fun halted => ?_)) counted.course
    exact absurd (initializing.symm.trans (counted.device ▸ halted)) (by simp)
  · exact idle.course

theorem course_completeRefresh (s : State) (b : BankId) : Course s (s.completeRefresh b) :=
  (still_modBank ..).course.trans (course_drainTest _)

/-! ### Arrivals -/

theorem course_hostResetPort {s : State} {p : PortId} (up : (s.link p).state ≠ .down) : Course s (s.hostResetPort p) := by
  refine Course.trans (Course.trans (course_teardown_of_up up .hostReset) ?_) (course_finishParity _)
  exact (still_ite (still_acceptFreshRequest ..) (.refl _)).course

theorem course_freshRequest (s : State) (p : PortId) : Course s (s.freshRequest p) := by
  unfold State.freshRequest
  split
  · exact (still_acceptFreshRequest ..).course
  · next active => exact course_hostResetPort (by rw [active]; simp)
  · next retrain => exact course_hostResetPort (by rw [retrain]; simp)
  all_goals exact .refl _

end Sys2Proof.Machine
end

section
/-! The management commands and every other command keep the two invariants; the tier 3 statements. -/

namespace Sys2Proof.Machine

/-! ### Management commands -/

theorem still_attentionTest (s : State) : Still s s.attentionTest := (reports_attentionTest s).still

theorem still_writeRegister {s after : State} {value : Nat} {register : Register}
    (h : s.writeRegister value register = some after) : Still s after := by
  cases register <;> simp only [State.writeRegister, reduceCtorEq, Option.some.injEq] at h
  case portStat0 | portStat1 => subst h; exact still_modLink_state _ _ (by intro; rfl)
  case bankStat => subst h; exact still_modBank ..
  case logStat0 | logStat1 | logClass => subst h; exact still_modFaults ..
  case alertMask => subst h; exact (still_modFaults ..).trans (still_attentionTest _)

theorem still_doRegWrite (s : State) (block : List Byte) : Still s (s.doRegWrite block).1 := by
  unfold State.doRegWrite
  split
  · exact .refl _
  · split
    · next written => exact still_writeRegister written
    · exact .refl _

theorem still_doRegRead (s : State) (block : List Byte) : Still s (s.doRegRead block).1 := by
  unfold State.doRegRead; split <;> exact .refl _

theorem course_doCreate (s : State) (block : List Byte) : Course s (s.doCreate block).1 := by
  unfold State.doCreate
  split
  · exact .refl _
  · split
    · exact course_parityFail ..
    · split
      · exact .refl _
      · split
        · exact .refl _
        · exact (still_modEntry ..).course

theorem still_stalePortSlots (s : State) (p : PortId) (which : SlotCopy → Bool) : Still s (s.stalePortSlots p which) :=
  Still.trans (b := s.stalePort p which) (still_modPort _ _ _ (by intro; rfl)) (steady_raiseStale ..).still

theorem still_walkSlots (s : State) (change : PortId → Slot → Slot) : Still s (s.walkSlots change) :=
  still_foldl (fun _ _ => still_modPort _ _ _ (by intro; rfl)) _ _

theorem still_modifyEntry (s : State) (i : ApIndex) (descriptor : Descriptor) : Still s (s.modifyEntry i descriptor) :=
  ((still_modEntry ..).trans (still_walkSlots ..)).trans (steady_raiseStaled ..).still

theorem course_doModify (s : State) (block : List Byte) : Course s (s.doModify block).1 := by
  unfold State.doModify
  split
  · exact .refl _
  · split
    · exact course_parityFail ..
    · split
      · exact .refl _
      · split
        · exact .refl _
        · exact (still_modifyEntry ..).course

theorem still_retireWalk (i : ApIndex) : ∀ (list : List (PortId × SlotId)) (s : State), Still s (s.retireWalk i list).1
  | [], s => .refl s
  | (p, k) :: rest, s => by
    unfold State.retireWalk
    split
    · split
      · exact .refl _
      · exact (still_modPort _ _ _ (by intro; rfl)).trans (still_retireWalk i rest _)
    · exact still_retireWalk i rest s

theorem still_finishRetire (s before : State) (i : ApIndex) : Still s (s.finishRetire before i) := by
  have told := (steady_raiseStaled s before fun _ copy => decide (handleIndex copy.handle = i)).still
  have broken := told.trans (still_endHolds _ (.broken .retire) fun hold =>
    decide (hold.aperture = i ∧ hold.generation = (before.entry i).generation))
  unfold State.finishRetire
  dsimp only
  split
  · exact broken.trans (steady_freeEntry ..).still
  · exact broken

theorem course_doRetire (s : State) (block : List Byte) : Course s (s.doRetire block).1 := by
  unfold State.doRetire
  split
  · exact .refl _
  · next i _ =>
    generalize walkOrder = order
    have walked := (still_modEntry s i fun entry => { entry with state := .retiring }).trans
      (still_retireWalk i order _)
    split
    · exact course_parityFail ..
    · split
      · exact .refl _
      · split
        · next stopped e => rw [e] at walked; exact walked.course.trans (course_parityFail ..)
        · next final e => rw [e] at walked; dsimp only; exact (walked.trans (still_finishRetire ..)).course

theorem course_doRead (s : State) (block : List Byte) : Course s (s.doRead block).1 := by
  unfold State.doRead
  split
  · exact .refl _
  · exact course_ite (course_parityFail ..) (.refl _)

theorem still_doLogPop (s : State) : Still s s.doLogPop.1 := by
  unfold State.doLogPop
  split
  · exact .refl _
  · exact (still_modFaults ..).trans (still_attentionTest _)

theorem still_doLogPeek (s : State) (block : List Byte) : Still s (s.doLogPeek block).1 := by
  unfold State.doLogPeek; split <;> exact .refl _

theorem still_doLogClear (s : State) : Still s s.doLogClear.1 := by
  unfold State.doLogClear
  dsimp only
  exact (still_modFaults ..).trans (still_attentionTest _)

theorem course_withdraw (s : State) (p : PortId) (new : PortConfig) : Course s (s.withdraw p new) :=
  course_ite (course_teardown (.inr rfl) p) (course_ite (still_stalePortSlots ..).course (.refl _))

/-- A link that begins to train in a state in which links run keeps the invariants (R29). -/
theorem course_beginFresh {s : State} (run : s.device.linksRun = true) (p : PortId) : Course s (s.modLink p beginFresh) :=
  course_of_linksRun run id

theorem course_configure (s : State) (p : PortId) (new : PortConfig) : Course s (s.configure p new) := by
  have replaced : Course s ((s.withdraw p new).modPort p fun port => { port with config := new }) :=
    (course_withdraw ..).trans (still_modPort _ _ _ (by intro; rfl)).course
  unfold State.configure
  dsimp only
  split
  · next trains =>
    refine replaced.trans (course_beginFresh ?_ p)
    simp only [Bool.and_eq_true] at trains
    obtain ⟨-, trains⟩ := trains
    revert trains
    cases ((s.withdraw p new).modPort p fun port => { port with config := new }).device <;>
      simp [configTrains, DevState.linksRun]
  · exact replaced

theorem course_doPortConfig (s : State) (source : Source) (block : List Byte) : Course s (s.doPortConfig source block).1 := by
  unfold State.doPortConfig
  split
  · exact .refl _
  · split
    · exact .refl _
    · exact course_configure ..

theorem course_resetOfPort (s : State) (p : PortId) : Course s (s.resetOfPort p) := by
  have cleared : Course s ((s.teardown p .portReset).modLink p clearCounters) :=
    (course_teardown (.inr rfl) p).trans (still_modLink_state _ _ (by intro; rfl)).course
  unfold State.resetOfPort
  dsimp only
  split
  · next trains =>
    simp only [Bool.and_eq_true] at trains
    exact cleared.trans (course_beginFresh trains.2 p)
  · exact cleared

theorem course_doPortReset (s : State) (source : Source) (block : List Byte) : Course s (s.doPortReset source block).1 := by
  unfold State.doPortReset
  split
  · exact .refl _
  · split
    · exact .refl _
    · exact course_resetOfPort ..

theorem still_doProfileStage (s : State) (block : List Byte) : Still s (s.doProfileStage block).1 := by
  unfold State.doProfileStage
  split
  · exact still_of_ports rfl rfl
  · exact .refl _

/-- Entry to INITIALIZING, where no link runs either, from UNCONFIGURED (R6, R10). -/
theorem course_enterInitializing {s : State} (h : s.device = .unconfigured) : Course s s.enterInitializing :=
  ⟨fun down _ => down (by rw [h]; rfl), fun halted => absurd (h.symm.trans halted) (by simp)⟩

theorem course_commit (s : State) : Course s s.commit := by
  have replaced : Still s { s with active := s.staged } := still_of_ports rfl rfl
  unfold State.commit
  split
  · next unconfigured =>
    exact replaced.course.trans (course_enterInitializing unconfigured)
  · exact replaced.course
  · exact replaced.course
  · next ready => exact course_enterDraining (by rw [ready]; simp) _
  all_goals exact .refl _

theorem course_doProfileCommit (s : State) : Course s s.doProfileCommit.1 := by
  unfold State.doProfileCommit
  split
  · exact .refl _
  · exact course_commit s

theorem course_doResume {s : State} (h : permitted .resume s.device = true) : Course s s.doResume.1 := by
  refine course_ite (.refl _) (course_enterReady fun halted => ?_)
  rw [halted] at h
  exact absurd h (by simp [permitted])

theorem still_forceFree (s : State) (i : ApIndex) : Still s (s.forceFree i) :=
  ((still_modEntry ..).trans (still_mapBanks ..)).trans (reports_raiseFreed ..).still

/-- Teardowns of ports leave the device state. -/
theorem teardowns_device (cause : Teardown) (list : List PortId) (s : State) :
    (list.foldl (fun (s : State) (p : PortId) => s.teardownCore p cause) s).device = s.device :=
  List.foldlRecOn (motive := fun (t : State) => t.device = s.device) _ _ rfl fun _ h _ _ =>
    (torn_teardownCore ..).device.trans h

/-- DATAPATH_RESET is permitted in READY and DRAINING and ends in READY (R24). -/
theorem doDatapathReset_device {s : State} (h : permitted .datapathReset s.device = true) :
    s.doDatapathReset.1.device = .ready := by
  have torn := teardowns_device .datapathReset allPorts s
  have freed : ∀ t : State, (t.retiringIndices.foldl State.forceFree t).device = t.device := fun t =>
    (still_foldl still_forceFree t.retiringIndices t).device
  have settled : ∀ t : State, permitted .datapathReset t.device = true → t.settleDrain.device = .ready := by
    intro t ok
    unfold State.settleDrain
    split
    · exact enterReady_device _
    · exact enterReady_device _
    · next profile quiesce =>
      cases e : t.device <;> simp_all [permitted]
      next reason => cases reason <;> simp_all
  unfold State.doDatapathReset
  dsimp only
  apply settled
  rw [State.modMgmt_device, freed, torn]
  exact h

theorem course_doDatapathReset {s : State} (h : permitted .datapathReset s.device = true) : Course s s.doDatapathReset.1 := by
  refine course_of_linksRun (by rw [doDatapathReset_device h]; rfl) fun halted => ?_
  rw [halted] at h
  exact absurd h (by simp [permitted])

theorem still_doHoldBreak (s : State) (block : List Byte) : Still s (s.doHoldBreak block).1 := by
  unfold State.doHoldBreak
  split
  · exact still_endHold ..
  · exact .refl _

theorem still_doInjectEcc (s : State) (block : List Byte) : Still s (s.doInjectEcc block).1 := by
  unfold State.doInjectEcc
  split
  · dsimp only
    exact still_modMgmt ..
  · exact .refl _

theorem course_doQuiesce {s : State} (h : permitted .quiesce s.device = true) : Course s s.doQuiesce.1 := by
  unfold State.doQuiesce
  dsimp only
  refine course_enterDraining (fun halted => ?_) _
  rw [halted] at h
  exact absurd h (by simp [permitted])

theorem course_doHalt (s : State) (source : Source) : Course s (s.doHalt source).1 := by
  unfold State.doHalt
  dsimp only
  exact course_of_halted (enterHalted_device ..)

/-- The effect of a permitted command (R170, R171). -/
theorem course_commandEffect {s : State} {command : Command} (h : permitted command s.device = true) (source : Source)
    (block : List Byte) : Course s (s.commandEffect source block command).1 := by
  unfold State.commandEffect
  cases command
  case regRead => exact (still_doRegRead ..).course
  case regWrite => exact (still_doRegWrite ..).course
  case apertureCreate => exact course_doCreate ..
  case apertureModify => exact course_doModify ..
  case apertureRetire => exact course_doRetire ..
  case apertureRead => exact course_doRead ..
  case portConfig => exact course_doPortConfig ..
  case portReset => exact course_doPortReset ..
  case logPop => exact (still_doLogPop s).course
  case logPeek => exact (still_doLogPeek ..).course
  case logClear => exact (still_doLogClear s).course
  case profileStage => exact (still_doProfileStage ..).course
  case profileCommit => exact course_doProfileCommit s
  case quiesce => exact course_doQuiesce h
  case resume => exact course_doResume h
  case datapathReset => exact course_doDatapathReset h
  case holdBreak => exact (still_doHoldBreak ..).course
  case injectEcc => exact (still_doInjectEcc ..).course
  case halt => exact course_doHalt ..

theorem course_runBlock (s : State) (source : Source) (block : List Byte) : Course s (s.runBlock source block).1 := by
  unfold State.runBlock
  split
  · exact .refl _
  · split
    · next allowed => exact course_commandEffect allowed ..
    · exact .refl _

theorem still_recordOutcome (s : State) (source : Source) (block : List Byte) (outcome : Outcome) :
    Still s (s.recordOutcome source block outcome) := by
  unfold State.recordOutcome
  split
  · exact still_offer ..
  · exact .refl _

theorem still_deliver (s : State) (source : Source) (block : List Byte) (outcome : Outcome) :
    Still s (s.deliver source block outcome) := by
  cases source
  case spi => exact still_modMgmt ..
  case port p tag => exact still_ite ((still_respond ..).trans (still_fenceTest ..)) (.refl _)

theorem course_concluded (s : State) (command : QueuedCommand) (outcome : Outcome) : Course s (s.concluded command outcome) :=
  (course_finishParity s).trans (((still_recordOutcome ..).trans (still_deliver ..)).trans (still_promptAttempts _)).course

theorem course_execute (s : State) (command : QueuedCommand) : Course s (s.execute command) :=
  ((still_modMgmt ..).course.trans (course_runBlock ..)).trans (course_concluded ..)

theorem course_execution (s : State) (which : List Byte → Bool) : Course s (s.execution which) := by
  unfold State.execution
  dsimp only
  split
  · exact course_ite ((course_settle s).trans (course_execute ..)) (course_settle s)
  · exact course_settle s

theorem course_answerFence (s : State) (p : PortId) : Course s (s.answerFence p) := by
  have answered : ∀ tag, Course s (s.answerTag p tag) := by
    intro tag
    unfold State.answerTag
    split
    · split
      · exact course_completeEntry ..
      · exact .refl _
    · split
      · exact course_ite (course_execute ..) (.refl _)
      · exact .refl _
  refine course_ite (still_fenceTest ..).course ?_
  split
  · exact answered _
  · exact .refl _

/-! ### The SPI port and the disturbances -/

theorem course_settleSubmit (s : State) : Course s s.settleSubmit := course_settleWhile ..

theorem still_submit (s : State) (block : List Byte) : Still s (s.submit block) :=
  still_ite (still_modMgmt ..) (still_ite ((still_modMgmt ..).trans (still_offer ..)) (still_ite (still_modMgmt ..)
    ((still_modMgmt ..).trans (still_nextPlace _))))

theorem still_spiStatusEvent (s : State) : Still s s.spiStatusEvent := (still_drive ..).trans (still_modMgmt ..)

/-! ### Every command -/

/-- RESET_N released: CALIBRATING, in which no link runs either (R5, R25). -/
theorem course_resetRelease (s : State) : Course s (if s.device = .reset then s.setDevice .calibrating else s) := by
  split
  · next reset => exact ⟨fun down _ => down (by rw [reset]; rfl), fun halted => absurd (reset.symm.trans halted) (by simp)⟩
  · exact .refl _

/-- Every command but RESET_N_ASSERT keeps the two invariants. -/
theorem exec_course {i : Instr} (h : i ≠ .resetNAssert) (s : State) : ∃ t, exec i s = .next t ∧ Course s t := by
  have settled := course_settle s
  have send : ∀ p kind, Course s (s.settle.sendOf p kind) := fun _ _ => settled.trans (still_sendOf ..).course
  cases i
  case resetNAssert => exact absurd rfl h
  case resetNRelease => exact ⟨_, rfl, course_resetRelease s⟩
  case tick => exact ⟨_, rfl, course_tickEvent s⟩
  case calibrationEnd | refreshObligation | holdExpiry | ackTimeout | trainingTimeout => exact ⟨_, rfl, course_tickWhen ..⟩
  case memoryDisturbance => exact ⟨_, rfl, settled.trans (still_setHealth ..).course⟩
  case tableDisturbance => exact ⟨_, rfl, course_ite settled (settled.trans (still_modEntry ..).course)⟩
  case malformedParcel port frame =>
    exact ⟨_, rfl, course_ite (settled.trans (still_modLink_state _ _ takeMalformed_state).course) settled⟩
  case receiveData =>
    exact ⟨_, rfl, course_ite (settled.trans (still_modLink_state _ _ takeMalformed_state).course)
      (course_ite (settled.trans ((still_processAck ..).trans (still_classify ..)).course) settled)⟩
  case receiveAck => exact ⟨_, rfl, course_ite (settled.trans (still_processAck ..).course) settled⟩
  case receiveNak port ack =>
    refine ⟨_, rfl, ?_⟩
    split
    · next active =>
      have up : (s.settle.link port).state ≠ .down := by rw [active]; simp
      exact settled.trans (still_ite (still_replayFrom up ack) (still_offer ..)).course
    · exact settled
  case receiveTrainReq | hostReset => exact ⟨_, rfl, settled.trans (course_freshRequest ..)⟩
  case receiveRetrainReq => exact ⟨_, rfl, settled.trans (still_retrainRequest ..).course⟩
  case receiveTrainAck => exact ⟨_, rfl, settled.trans (still_trainAnswer ..).course⟩
  case sendTrainAck | sendTrainReq | sendNak | sendRetransmit | sendNewData | sendAck => exact ⟨_, rfl, send ..⟩
  case shortRequest | read | write | writeMasked | atomic | bind | unbind | querySlot | holdOpen | holdRelease | fence |
      mgmt | invalidRequestKind | admissionReattempt | bankDecision | drainComplete => exact ⟨_, rfl, course_prompted ..⟩
  case fenceAnswer => exact ⟨_, rfl, settled.trans (course_answerFence ..)⟩
  case readService | writeService | writeMaskedService | atomicService => exact ⟨_, rfl, settled.trans (course_complete ..)⟩
  case clearingService => exact ⟨_, rfl, course_ite (settled.trans (course_completeClearing ..)) settled⟩
  case refreshComplete =>
    exact ⟨_, rfl, course_ite (settled.trans ((course_completeRefresh ..).trans (course_finishParity _))) settled⟩
  case spiStatus => exact ⟨_, rfl, settled.trans (still_ite (still_drive ..) (still_spiStatusEvent _)).course⟩
  case spiResult => exact ⟨_, rfl, settled.trans (still_drive ..).course⟩
  case spiSubmit =>
    exact ⟨_, rfl, (course_settleSubmit s).trans (still_ite (still_drive ..) ((still_submit ..).trans (still_drive ..))).course⟩
  case spiBadOpcode =>
    exact ⟨_, rfl, settled.trans (still_ite (still_drive ..) (still_ite (.refl _)
      (((still_modMgmt ..).trans (still_offer ..)).trans (still_drive ..)))).course⟩
  all_goals exact ⟨_, rfl, course_execution ..⟩

theorem linksDown_reset : State.reset.LinksDown := fun _ p => by
  simp [State.link, State.port, State.reset, resetPort, resetLink]

/-- Settles O56: every command but RESET_N_ASSERT keeps it, and after RESET_N_ASSERT every link is DOWN. -/
theorem stepKeepsLinksDown : Obligations.StepKeepsLinksDown := by
  intro s t down run
  cases queue : s.pending with
  | nil =>
    rw [step_of_pending_nil queue] at run
    cases run
    exact down
  | cons i rest =>
    rw [step_of_pending_cons queue] at run
    by_cases assert : i = .resetNAssert
    · subst assert
      cases run
      exact linksDown_reset
    · obtain ⟨after, e, course⟩ := exec_course assert { s with pending := rest }
      cases e.symm.trans run
      exact course.links down

/-- Settles O59. -/
theorem haltedIsLeftByResetOnly : Obligations.HaltedIsLeftByResetOnly := by
  intro i s t other halted run
  obtain ⟨after, e, course⟩ := exec_course other s
  cases e.symm.trans run
  exact course.halted halted

end Sys2Proof.Machine
end

section
/-! RESET_N (R3 to R5): what every part of the state reads while it is asserted, and the invariants there. -/

namespace Sys2Proof.Machine

@[simp] theorem port_assertReset (s : State) (p : PortId) : s.assertReset.port p = resetPort := by
  simp [State.port, State.assertReset, State.reset]

@[simp] theorem link_assertReset (s : State) (p : PortId) : s.assertReset.link p = resetLink := by
  rw [State.link, port_assertReset]; rfl

@[simp] theorem tagHolder_assertReset (s : State) (p : PortId) (tag : Tag) : s.assertReset.tagHolder p tag = none := by
  simp [State.tagHolder, resetPort]

@[simp] theorem slot_assertReset (s : State) (p : PortId) (k : SlotId) : s.assertReset.slot p k = .empty := by
  simp [State.slot, resetPort]

@[simp] theorem entry_assertReset (s : State) (i : ApIndex) : s.assertReset.entry i = resetEntry := by
  simp [State.entry, State.assertReset, State.reset]

@[simp] theorem hold_assertReset (s : State) (h : HoldId) : s.assertReset.hold h = none := by
  simp [State.hold, State.assertReset, State.reset]

@[simp] theorem bank_assertReset (s : State) (b : BankId) : s.assertReset.bank b = resetBank := by
  simp [State.bank, State.assertReset, State.reset]

/-- The register words do not depend on the memory array and the queue of commands, all that outlives RESET_N. -/
theorem readRegister_assertReset (s : State) (register : Register) :
    s.assertReset.readRegister register = State.reset.readRegister register := by cases register <;> rfl

/-- The words of Table 11-1 at reset. -/
theorem readRegister_reset : ∀ row ∈ ([(0x00, 0x80640001), (0x01, 0), (0x02, 0), (0x03, 0x03041000), (0x04, 0x03041000),
    (0x08, 7), (0x09, 7), (0x0A, 7), (0x0B, 7), (0x10, 0), (0x11, 0), (0x12, 0), (0x13, 0), (0x14, 0), (0x15, 0), (0x16, 0),
    (0x17, 0), (0x20, 0), (0x21, 0), (0x22, 0), (0x23, 0), (0x24, 0), (0x25, 0), (0x26, 0), (0x27, 0), (0x30, 0), (0x31, 0),
    (0x32, 0), (0x33, 0x7F), (0x34, 0x22), (0x35, 0), (0x36, 0)] : List (Nat × Nat)),
    (registerAt row.1).map State.reset.readRegister = some row.2 := by decide +kernel

/-- Settles O2. -/
theorem resetAssertAndRelease : Obligations.ResetAssertAndRelease := by
  refine ⟨fun s => ⟨s.assertReset, rfl, rfl, rfl, ?profiles, link_assertReset s, fun p => ?port, entry_assertReset s,
    hold_assertReset s, bank_assertReset s, rfl, rfl, rfl, rfl, rfl, rfl, rfl, fun row listed => ?register, rfl, rfl, rfl⟩,
    fun s reset => ?released, fun s running => ?ignored⟩
  case profiles => exact fun profile listed => (List.mem_pair.1 listed).elim id id
  case port =>
    rw [port_assertReset]
    exact ⟨rfl, rfl, rfl, rfl, tagHolder_assertReset s p, rfl, rfl, slot_assertReset s p, rfl, rfl⟩
  case register =>
    obtain ⟨register, found, value⟩ := Option.map_eq_some_iff.1 (readRegister_reset row listed)
    exact ⟨register, found, (readRegister_assertReset s register).trans value⟩
  case released => exact congrArg Host.Outcome.next (if_pos reset)
  case ignored => exact congrArg Host.Outcome.next (if_neg running)

/-! ### The invariants at reset -/

theorem slot_reset (p : PortId) (k : SlotId) : State.reset.slot p k = .empty := slot_assertReset State.reset p k

theorem hold_reset (h : HoldId) : State.reset.hold h = none := hold_assertReset State.reset h

theorem bindingsCounted_reset : State.reset.BindingsCounted := fun i => by
  have entry : State.reset.entry i = resetEntry := entry_assertReset State.reset i
  simp [entry, State.slotsNaming, slot_reset, slotIndex, resetEntry]

theorem holdsApart_reset : State.reset.HoldsApart where
  apart _ h _ _ _ _ found := absurd found (by simp [hold_reset])
  owned := by decide +kernel

theorem spiSlotKept_reset : State.reset.SpiSlotKept where
  one := by decide
  executing := by decide
  queued := by simp [State.reset, resetMgmt]

/-- Settles O53. -/
theorem resetMeetsInvariants : Obligations.ResetMeetsInvariants :=
  ⟨⟨sparseWf_nil, sparseWf_nil⟩, bindingsCounted_reset, linksDown_reset, rfl, holdsApart_reset, rfl, spiSlotKept_reset⟩

end Sys2Proof.Machine
end

section
/-! The tick (R143): what it leaves of the banks, and the ticks that end CALIBRATING or bring an obligation. -/

namespace Sys2Proof.Machine

/-! ### What the links and the end of an event leave of the banks -/

/-- Every bank is kept but for its queue. -/
structure BanksKept (s t : State) : Prop where
  bank : ∀ b, BankKept (s.bank b) (t.bank b)

theorem BanksKept.refl (s : State) : BanksKept s s := ⟨fun _ => .refl _⟩

theorem BanksKept.trans {a b c : State} (h : BanksKept a b) (k : BanksKept b c) : BanksKept a c :=
  ⟨fun i => (h.bank i).trans (k.bank i)⟩

theorem banksKept_of_banks {s t : State} (h : t.banks = s.banks) : BanksKept s t := ⟨fun b => by
  unfold State.bank; rw [h]; exact .refl _⟩

theorem banksKept_ite {c : Prop} [Decidable c] {s a b : State} (h : BanksKept s a) (k : BanksKept s b) :
    BanksKept s (if c then a else b) := by
  split
  · exact h
  · exact k

theorem banksKept_teardownCore (s : State) (p : PortId) (cause : Teardown) : BanksKept s (s.teardownCore p cause) :=
  ⟨fun b => ((torn_teardownCore s p cause).bank b).toBankKept⟩

theorem banksKept_completeDrain (s : State) : BanksKept s s.completeDrain := by
  unfold State.completeDrain
  split
  · exact banksKept_of_banks (trained_enterReady _).banks
  · exact List.foldlRecOn (motive := BanksKept s) _ _ (banksKept_of_banks rfl) fun _ h _ _ =>
      h.trans (banksKept_teardownCore ..)
  · exact .refl _

theorem banksKept_teardown (s : State) (p : PortId) (cause : Teardown) : BanksKept s (s.teardown p cause) :=
  (banksKept_teardownCore ..).trans (banksKept_ite (banksKept_completeDrain _) (.refl _))

theorem banksKept_replayDue (s : State) (p : PortId) : BanksKept s (s.replayDue p) := by
  unfold State.replayDue
  split
  · exact banksKept_of_banks rfl
  · exact banksKept_of_banks (reports_offer ..).banks

theorem banksKept_tickLink (s : State) (p : PortId) : BanksKept s (s.tickLink p) := by
  have link : ∀ f, BanksKept s (s.modLink p f) := fun _ => banksKept_of_banks rfl
  unfold State.tickLink
  dsimp only
  split
  · exact banksKept_ite (.refl _) (banksKept_ite ((link _).trans (banksKept_replayDue ..)) (link _))
  · exact banksKept_ite (link _) (link _)
  · exact banksKept_ite (banksKept_ite (link _) ((link _).trans (banksKept_teardown ..))) (link _)
  all_goals exact .refl _

theorem calm_tickLink (s : State) (p : PortId) : Calm s (s.tickLink p) := by
  have link : ∀ f, Calm s (s.modLink p f) := fun _ => calm_modLink ..
  unfold State.tickLink
  dsimp only
  split
  · exact calm_ite (.refl _) (calm_ite ((link _).trans (calm_replayDue ..)) (link _))
  · exact calm_ite (link _) (link _)
  · exact calm_ite (calm_ite (link _) ((link _).trans (calm_teardown ..))) (link _)
  all_goals exact .refl _

theorem calm_tickCalibration (s : State) : Calm s s.tickCalibration := calm_ite (calm_setDevice ..) (.refl _)

theorem tickCalibration_banks (s : State) : s.tickCalibration.banks = s.banks := by
  unfold State.tickCalibration; split <;> rfl

/-! ### The parts of a tick -/

/-- The state after the count and the holds have counted, before those at 0 expire (R136, R143). -/
def State.counted (s : State) : State :=
  { s with tickCount := s.tickCount + 1, ticksDue := s.ticksDue.tail, holds := s.holds.map countHold }

/-- The state after the holds and the banks have had their part of the tick (R143). -/
def State.timed (s : State) : State :=
  (s.counted.endHolds .expiry fun hold => decide (hold.remaining = 0)).mapBanks (tickBank s.active.refreshInterval)

/-- The state after the links and the calibration have had theirs. -/
def State.ticked (s : State) : State := ((allPorts.foldl State.tickLink s.timed).tickCalibration).finishParity

/-- The mark that the decision points now due came of a tick. -/
def State.setDecisions (s : State) (due : Bool) : State := { s with tickDecisions := due }

theorem steady_setDecisions (s : State) (due : Bool) : Steady s (s.setDecisions due) := steady_of_ports rfl rfl rfl
theorem calm_setDecisions (s : State) (due : Bool) : Calm s (s.setDecisions due) := ⟨rfl, rfl, rfl, rfl, rfl⟩
theorem tables_setDecisions (s : State) (due : Bool) : TablesKept s (s.setDecisions due) := ⟨rfl, rfl, rfl⟩
theorem banksKept_setDecisions (s : State) (due : Bool) : BanksKept s (s.setDecisions due) := banksKept_of_banks rfl

theorem takeTick_eq (s : State) : s.takeTick = s.ticked.setDecisions s.ticked.decisionPending := rfl

theorem steady_counted (s : State) : Steady s s.counted := steady_of_ports rfl rfl rfl

theorem tables_counted (s : State) : TablesKept s s.counted := ⟨rfl, rfl, rfl⟩

theorem tables_setDevice (s : State) (d : DevState) : TablesKept s (s.setDevice d) := ⟨rfl, rfl, rfl⟩

theorem tables_mapBanks (s : State) (f : Bank → Bank) : TablesKept s (s.mapBanks f) := ⟨rfl, rfl, rfl⟩

/-- The parts of a tick before the links change nothing of the device, the links and the tables. -/
theorem steady_timed (s : State) : Steady s s.timed :=
  ((steady_counted s).trans (steady_endHolds ..)).trans (steady_mapBanks ..)

theorem tables_timed (s : State) : TablesKept s s.timed :=
  ((tables_counted s).trans (tables_endHolds ..)).trans (tables_mapBanks ..)

theorem calm_timed (s : State) : Calm s.counted s.timed := (calm_endHolds ..).trans (calm_mapBanks ..)

theorem bank_timed (s : State) (b : BankId) :
    ∃ bank, Reparked (s.bank b) bank ∧ s.timed.bank b = tickBank s.active.refreshInterval bank :=
  ⟨_, reparked_endHolds s.counted .expiry (fun hold => decide (hold.remaining = 0)) b, State.bank_mapBanks ..⟩

theorem calm_ticked (s : State) : Calm s.counted s.ticked :=
  (((calm_timed s).trans (calm_foldl calm_tickLink _ _)).trans (calm_tickCalibration _)).trans (calm_finishParity _)

/-- All that a tick does to the memory and the timebase (R143). -/
theorem calm_takeTick (s : State) : Calm s.counted s.takeTick := by
  rw [takeTick_eq]
  exact (calm_ticked s).trans (calm_setDecisions ..)

theorem banksKept_ticked (s : State) : BanksKept s.timed s.ticked := by
  have linked : BanksKept s.timed (allPorts.foldl State.tickLink s.timed) :=
    List.foldlRecOn (motive := BanksKept s.timed) _ _ (.refl _) fun _ h _ _ => h.trans (banksKept_tickLink ..)
  exact linked.trans ((banksKept_of_banks (tickCalibration_banks _)).trans
    (banksKept_of_banks (trained_finishParity _).banks))

/-- A bank after a tick is the bank that the refresh counters leave (R145). -/
theorem bank_takeTick (s : State) (b : BankId) :
    ∃ bank, Reparked (s.bank b) bank ∧ BankKept (tickBank s.active.refreshInterval bank) (s.takeTick.bank b) := by
  obtain ⟨bank, moved, timed⟩ := bank_timed s b
  have kept := ((banksKept_ticked s).trans (banksKept_setDecisions _ s.ticked.decisionPending)).bank b
  rw [timed] at kept
  rw [takeTick_eq]
  exact ⟨bank, moved, kept⟩

/-- Links that are DOWN have no part in a tick. -/
theorem tickLinks_of_down {s : State} (h : ∀ p, (s.link p).state = .down) : allPorts.foldl State.tickLink s = s := by
  have one : ∀ p, s.tickLink p = s := fun p => by simp [State.tickLink, h p]
  simp [allPorts, one]

/-- The tick that ends calibration, the links being DOWN (R5, R143). -/
theorem ticked_of_calibration {s : State} (settled : s.ParitySettled) (device : s.device = .calibrating)
    (count : s.tickCount = 149) (down : ∀ p, (s.link p).state = .down) : s.ticked = s.timed.setDevice .unconfigured := by
  have steady := steady_timed s
  have counted : s.timed.tickCount = 150 := by rw [(calm_timed s).tickCount, State.counted, count]; rfl
  have ended : s.timed.tickCalibration = s.timed.setDevice .unconfigured :=
    if_pos ⟨steady.device.trans device, counted⟩
  have none : (s.timed.setDevice .unconfigured).ParitySettled := by
    rw [State.ParitySettled, State.setDevice_parityPending, (tables_timed s).parityPending, settled]
  rw [State.ticked, tickLinks_of_down fun p => (steady.link p).symm ▸ down p, ended, finishParity_of_settled none]

/-- A bank that has ticked up to the interval has one obligation more, and an IDLE one a decision point (R145). -/
theorem tickBank_of_interval {interval : Nat} {bank : Bank} (due : interval ≤ bank.sinceRefresh + 1)
    (idle : bank.state = .idle) : tickBank interval bank =
      { bank with
        owed := bank.owed + 1, sinceRefresh := 0, owedMax := max bank.owedMax (bank.owed + 1), decisionDue := true } := by
  simp [tickBank, due, dueIfIdle, idle]

/-! ### A tick that falls due -/

theorem fallDue_of_tickFree {s : State} (h : s.TickFree) : ∃ due, s.fallDue = { s with ticksDue := due } :=
  ⟨_, if_neg h.2.1⟩

theorem calibrationEnds_iff (s : State) : calibrationEnds s = true ↔ s.device = .calibrating ∧ s.tickCount + 1 = 150 :=
  decide_eq_true_iff

/-- The tick that ends CALIBRATING (R5, R25). -/
theorem takeTick_of_calibration {s : State} (settled : s.ParitySettled) (device : s.device = .calibrating)
    (count : s.tickCount = 149) (down : ∀ p, (s.link p).state = .down) :
    s.takeTick.device = .unconfigured ∧ (∀ p, (s.takeTick.link p).state = .down) ∧ TablesKept s s.takeTick ∧
      s.takeTick.active = s.active := by
  have ended := ticked_of_calibration settled device count down
  have marked := steady_setDecisions s.ticked s.ticked.decisionPending
  have tables := tables_setDecisions s.ticked s.ticked.decisionPending
  rw [takeTick_eq]
  refine ⟨?_, fun p => ?_, ((tables_timed s).trans ?_).trans tables, ?_⟩
  · rw [marked.device, ended, State.setDevice_device]
  · rw [marked.link, ended, State.link_setDevice, (steady_timed s).link, down]
  · rw [ended]; exact tables_setDevice ..
  · rw [marked.active, ended, State.setDevice_active, (steady_timed s).active]

/-- A bank whose refresh interval has run has one obligation more and a decision point after the tick (R145). -/
theorem takeTick_of_interval {s : State} {b : BankId} (due : s.active.refreshInterval ≤ (s.bank b).sinceRefresh + 1)
    (idle : (s.bank b).state = .idle) :
    (s.takeTick.bank b).owed = (s.bank b).owed + 1 ∧ (s.takeTick.bank b).sinceRefresh = 0 ∧
      (s.takeTick.bank b).owedMax = max (s.bank b).owedMax ((s.bank b).owed + 1) ∧
      (s.takeTick.bank b).decisionDue = true ∧ (s.takeTick.bank b).state = .idle := by
  obtain ⟨bank, moved, kept⟩ := bank_takeTick s b
  have still := moved.state.trans idle
  rw [tickBank_of_interval (by rw [moved.sinceRefresh]; exact due) still] at kept
  rw [← moved.owed, ← moved.owedMax]
  exact ⟨kept.owed, kept.sinceRefresh, kept.owedMax, kept.due rfl, kept.state.trans still⟩

/-- Settles O5. -/
theorem calibrationEndsAndObligationsFall : Obligations.CalibrationEndsAndObligationsFall := by
  refine ⟨fun s free settled device count down => ?_, fun s b free due => ?_⟩
  · have ends := (calibrationEnds_iff s).2 ⟨device, by rw [count]; rfl⟩
    obtain ⟨ticks, falls⟩ := fallDue_of_tickFree free
    have tick : exec .calibrationEnd s = .next s.fallDue.takeTick := congrArg Host.Outcome.next (tickWhen_of_tickFree free ends)
    rw [falls] at tick
    obtain ⟨ended, links, tables, active⟩ := takeTick_of_calibration (s := { s with ticksDue := ticks }) settled device count down
    have calm := calm_takeTick { s with ticksDue := ticks }
    refine ⟨_, tick, ended, ?_, links, tables.apertures, tables.mgmt, calm.memory, calm.health, calm.staged, active⟩
    exact calm.tickCount.trans (congrArg (· + 1) count)
  · obtain ⟨ticks, falls⟩ := fallDue_of_tickFree free
    have tick : exec (.refreshObligation b) s = .next s.fallDue.takeTick :=
      congrArg Host.Outcome.next (tickWhen_of_tickFree free (decide_eq_true due))
    rw [falls] at tick
    have calm := calm_takeTick { s with ticksDue := ticks }
    obtain ⟨-, -, -, idle, -⟩ := free
    obtain ⟨owed, since, most, decides, state⟩ := takeTick_of_interval (s := { s with ticksDue := ticks }) (b := b) due (idle b)
    exact ⟨_, tick, owed, since, most, decides, state, calm.tickCount, calm.memory, calm.health⟩

end Sys2Proof.Machine
end

section
/-! Events and records: which events a port gets where its queue has room, and what a report depends on (R154 to R161). -/

namespace Sys2Proof.Machine

/-! ### What a report depends on -/

/-- Two states agree in what reporting reads: the ports, the event and fault unit, the timebase and the next place. -/
structure SameView (s t : State) : Prop where
  ports : t.ports = s.ports
  faults : t.faults = s.faults
  tickCount : t.tickCount = s.tickCount
  order : t.order = s.order

theorem SameView.port {s t : State} (h : SameView s t) (p : PortId) : t.port p = s.port p := by
  unfold State.port; rw [h.ports]

theorem SameView.link {s t : State} (h : SameView s t) (p : PortId) : t.link p = s.link p := by
  unfold State.link; rw [h.port]

theorem SameView.eventsOf {s t : State} (h : SameView s t) (p : PortId) : t.eventsOf p = s.eventsOf p := by
  unfold State.eventsOf; rw [h.port]

theorem sameView_modPort {s t : State} (h : SameView s t) (p : PortId) (f : Port → Port) :
    SameView (s.modPort p f) (t.modPort p f) :=
  ⟨by simp only [State.modPort, h.ports, h.port], h.faults, h.tickCount, h.order⟩

theorem sameView_modFaults {s t : State} (h : SameView s t) (f : FaultUnit → FaultUnit) :
    SameView (s.modFaults f) (t.modFaults f) := ⟨h.ports, congrArg f h.faults, h.tickCount, h.order⟩

theorem sameView_placeEvent {s t : State} (h : SameView s t) (p : PortId) (e : Event) :
    SameView (s.placeEvent p e) (t.placeEvent p e) := by
  unfold State.placeEvent
  rw [h.order]
  have placed := sameView_modPort h p fun port => { port with events := port.events ++ [{ placed := s.order, event := e }] }
  exact ⟨placed.ports, placed.faults, placed.tickCount, congrArg (· + 1) placed.order⟩

theorem sameView_raiseWith {lost : State → State} (k : ∀ {s t}, SameView s t → SameView (lost s) (lost t)) {s t : State}
    (h : SameView s t) (p : PortId) (e : Event) : SameView (s.raiseWith lost p e) (t.raiseWith lost p e) := by
  unfold State.raiseWith
  rw [h.link, h.port]
  split
  · exact h
  · split
    · exact sameView_placeEvent h p e
    · exact k (sameView_modPort h ..)

theorem sameView_foldl {α : Type} {f : State → α → State} (k : ∀ {s t} a, SameView s t → SameView (f s a) (f t a)) :
    ∀ (list : List α) {s t : State}, SameView s t → SameView (list.foldl f s) (list.foldl f t)
  | [], _, _, h => h
  | a :: rest, _, _, h => sameView_foldl k rest (k a h)

theorem sameView_attentionTest {s t : State} (h : SameView s t) : SameView s.attentionTest t.attentionTest := by
  have told : ∀ {s t : State}, SameView s t → SameView s.raiseAttention t.raiseAttention := by
    refine fun h => sameView_foldl (fun {s t} p h => ?_) allPorts h
    rw [h.port]
    split
    · refine sameView_raiseWith (fun {s t} h => ?_) h _ _
      rw [h.tickCount]
      exact sameView_modFaults h _
    · exact h
  unfold State.attentionTest
  rw [h.faults]
  split
  · split
    · exact h
    · exact told (sameView_modFaults h _)
  · split
    · exact sameView_modFaults h _
    · exact h

/-- The record of a fault and the events that it brings depend on the view alone. -/
theorem sameView_offer {s t : State} (h : SameView s t) (fault : Offer) : SameView (s.offer fault) (t.offer fault) := by
  unfold State.offer
  rw [h.faults, h.tickCount]
  dsimp only
  split
  · exact sameView_attentionTest (sameView_modFaults h _)
  · exact sameView_modFaults h _

/-! ### Events where there is room -/

/-- No record, and these events at the tail of the queue of each port whose link is up. -/
structure Told (s t : State) (events : PortId → List Event) : Prop where
  faults : t.faults = s.faults
  links : ∀ p, t.link p = s.link p
  queued : ∀ p, t.eventsOf p = s.eventsOf p ++ if (s.link p).state ∈ [LinkState.down, .failed] then [] else events p

theorem told_nil {s t : State} (faults : t.faults = s.faults) (ports : ∀ p, t.port p = s.port p) :
    Told s t fun _ => [] :=
  ⟨faults, fun p => by rw [State.link, ports, State.link], fun p => by simp [State.eventsOf, ports]⟩

theorem Told.refl (s : State) : Told s s fun _ => [] := told_nil rfl fun _ => rfl

theorem Told.trans {a b c : State} {first second : PortId → List Event} (h : Told a b first) (k : Told b c second) :
    Told a c fun p => first p ++ second p := by
  refine ⟨k.faults.trans h.faults, fun p => (k.links p).trans (h.links p), fun p => ?_⟩
  rw [k.queued, h.queued, h.links]
  split <;> simp

theorem Told.congr {s t : State} {first second : PortId → List Event} (h : Told s t first) (e : ∀ p, first p = second p) :
    Told s t second := (funext e : first = second) ▸ h

theorem Told.length {s t : State} {events : PortId → List Event} (h : Told s t events) (p : PortId) :
    (t.port p).events.length ≤ (s.port p).events.length + (events p).length := by
  have length := congrArg List.length (h.queued p)
  simp only [State.eventsOf, List.length_map, List.length_append] at length
  split at length
  · simp at length; omega
  · omega

/-- Events told where there is room are events raised. -/
theorem raised_of_told {s t : State} {events : PortId → List Event}
    (h : (∀ p, (s.port p).events.length + (events p).length ≤ 8) → Told s t events) : Raised s t events := fun room =>
  ⟨(h room).faults, fun p => by rw [(h room).queued, (h room).links]⟩

theorem eventsOf_placeEvent (s : State) (p q : PortId) (e : Event) :
    (s.placeEvent p e).eventsOf q = s.eventsOf q ++ if q = p then [e] else [] := by
  have port : (s.placeEvent p e).port q = (s.modPort p fun port =>
      { port with events := port.events ++ [{ placed := s.order, event := e }] }).port q := rfl
  rw [State.eventsOf, port, State.port_modPort]
  by_cases same : p = q
  · subst same; simp [State.eventsOf]
  · simp [same, Ne.symm same, State.eventsOf]

theorem told_raise {s : State} {p : PortId} (room : (s.port p).events.length < 8) (e : Event) :
    Told s (s.raise p e) fun q => if q = p then [e] else [] := by
  unfold State.raise State.raiseWith
  have room' : (s.port p).events.length < Config.eventDepth := room
  by_cases dead : linkDead (s.link p) = true
  · rw [if_pos dead]
    refine ⟨rfl, fun _ => rfl, fun q => ?_⟩
    by_cases same : q = p
    · subst same; simp_all [linkDead]
    · simp [same]
  · rw [if_neg dead, if_pos room']
    refine ⟨rfl, (reports_placeEvent s p e).link, fun q => ?_⟩
    rw [eventsOf_placeEvent]
    by_cases same : q = p
    · subst same; simp_all [linkDead]
    · simp [same]

/-- Events that steps of a walk raise, each step its own, where there is room for all of them. -/
theorem told_foldl {α : Type} {f : State → α → State} (events : State → α → PortId → List Event)
    (told : ∀ s a, (∀ p, (s.port p).events.length + (events s a p).length ≤ 8) → Told s (f s a) (events s a))
    (same : ∀ s a b, b ≠ a → events (f s a) b = events s b) : ∀ (list : List α) (s : State), list.Nodup →
      (∀ p, (s.port p).events.length + (list.flatMap fun a => events s a p).length ≤ 8) →
        Told s (list.foldl f s) fun p => list.flatMap fun a => events s a p
  | [], s, _, _ => .refl s
  | a :: rest, s, nodup, room => by
    obtain ⟨fresh, nodup⟩ := List.nodup_cons.1 nodup
    have kept : ∀ p, (rest.flatMap fun b => events (f s a) b p) = rest.flatMap fun b => events s b p := fun p =>
      List.flatMap_congr fun b mem => congrFun (same s a b fun e => fresh (e ▸ mem)) p
    have first := told s a fun p => by have := room p; simp only [List.flatMap_cons, List.length_append] at this; omega
    have others := told_foldl events told same rest (f s a) nodup fun p => by
      have total := room p
      have grown := first.length p
      simp only [List.flatMap_cons, List.length_append] at total
      rw [kept]; omega
    exact (first.trans others).congr fun p => by rw [kept, List.flatMap_cons]

/-- Over all ports, what concerns one port comes once. -/
theorem flatMap_allPorts (p : PortId) (events : PortId → List Event) :
    (allPorts.flatMap fun q => if p = q then events q else []) = events p := by
  fin_cases p <;> simp [allPorts]

theorem told_raiseDeviceState {s : State} (room : ∀ p, (s.port p).events.length < 8) (news : StateNews) :
    Told s (s.raiseDeviceState news) fun _ => [.deviceState news] := by
  have all := told_foldl (f := fun s p => s.raise p (.deviceState news))
    (fun _ q p => if p = q then [.deviceState news] else [])
    (fun t q room => told_raise (by have := room q; simp at this; omega) _) (fun _ _ _ _ => rfl) allPorts s (by decide)
    (fun p => by rw [flatMap_allPorts p fun _ => [Event.deviceState news]]; exact room p)
  exact all.congr fun p => flatMap_allPorts p fun _ => [.deviceState news]

/-- The APERTURE_FREED event of a subscribed port of a mask (R79, R160). -/
def freedEvents (s : State) (ports : BitVec 4) (i : ApIndex) (p : PortId) : List Event :=
  if ports.getLsbD p.val = true ∧ (s.port p).config.maskFreed = true then [.apertureFreed i] else []

theorem Steady.freedEvents {s t : State} (h : Steady s t) (ports : BitVec 4) (i : ApIndex) :
    freedEvents t ports i = freedEvents s ports i := by
  funext p; simp only [Machine.freedEvents, h.config]

theorem told_raiseFreed {s : State} {ports : BitVec 4} {i : ApIndex}
    (room : ∀ p, (s.port p).events.length + (freedEvents s ports i p).length ≤ 8) :
    Told s (s.raiseFreed ports i) (freedEvents s ports i) := by
  have one : ∀ (t : State) (q : PortId),
      (∀ p, (t.port p).events.length + (if p = q then freedEvents t ports i q else []).length ≤ 8) →
        Told t (if ports.getLsbD q.val && (t.port q).config.maskFreed then t.raise q (.apertureFreed i) else t)
          fun p => if p = q then freedEvents t ports i q else [] := by
    intro t q room
    have own := room q
    unfold freedEvents at own ⊢
    by_cases met : ports.getLsbD q.val = true ∧ (t.port q).config.maskFreed = true
    · rw [if_pos rfl, if_pos met] at own
      rw [if_pos (by simpa using met), if_pos met]
      exact told_raise (by simpa using own) _
    · rw [if_neg (by simpa using met), if_neg met]
      exact (Told.refl t).congr fun p => by simp
  have steady : ∀ (t : State) (q : PortId),
      Steady t (if ports.getLsbD q.val && (t.port q).config.maskFreed then t.raise q (.apertureFreed i) else t) :=
    fun t q => steady_ite (steady_raise ..) (.refl t)
  have all := told_foldl (fun t q p => if p = q then freedEvents t ports i q else []) one
    (fun t q r _ => by rw [(steady t q).freedEvents]) allPorts s (by decide)
    (fun p => by rw [flatMap_allPorts p (freedEvents s ports i)]; exact room p)
  exact all.congr fun p => flatMap_allPorts p (freedEvents s ports i)

end Sys2Proof.Machine
end

section
/-! Entry to DRAINING, READY and HALTED: the events that it raises, and the statements on them. -/

namespace Sys2Proof.Machine

/-! ### The events of broken holds -/

/-- A state with the ports and the event and fault unit of another: nothing was told. -/
theorem told_of_ports {s t : State} (faults : t.faults = s.faults) (ports : t.ports = s.ports) : Told s t fun _ => [] :=
  told_nil faults fun p => by unfold State.port; rw [ports]

/-- The HOLD_BROKEN event of one hold for a port (R137). -/
def breakEvent (s : State) (reason : BreakReason) (which : Hold → Bool) (h : HoldId) (p : PortId) : List Event :=
  if (s.hold h).any fun hold => decide (hold.owner = p) && which hold then [.holdBroken h reason] else []

theorem flatMap_singletons {α β : Type} (c : α → Bool) (g : α → β) (list : List α) :
    (list.flatMap fun a => if c a then [g a] else []) = (list.filter c).map g := by
  induction list with
  | nil => rfl
  | cons a rest ih => cases met : c a <;> simp [met, ih]

theorem brokenEvents_eq (s : State) (reason : BreakReason) (which : Hold → Bool) (p : PortId) :
    (allHolds.flatMap fun h => breakEvent s reason which h p) = brokenEvents s reason which p :=
  flatMap_singletons (fun h => (s.hold h).any fun (hold : Hold) => decide (hold.owner = p) && which hold) _ allHolds

theorem told_endHold {s : State} {h : HoldId} {hold : Hold} (found : s.hold h = some hold) (reason : BreakReason)
    (room : (s.port hold.owner).events.length < 8) :
    Told s (s.endHold h (.broken reason)) fun p => if p = hold.owner then [.holdBroken h reason] else [] := by
  have raised := told_raise (s := s.setHold h none) (p := hold.owner) room (.holdBroken h reason)
  have ended : s.endHold h (.broken reason) = ((s.setHold h none).raise hold.owner (.holdBroken h reason)).retest h := by
    simp only [State.endHold, found]; rfl
  rw [ended]
  refine Told.congr (((told_of_ports (s := s) (t := s.setHold h none) rfl rfl).trans raised).trans
    (told_of_ports (t := State.retest _ h) rfl rfl)) fun p => by simp

theorem told_endHolds {s : State} {reason : BreakReason} {which : Hold → Bool}
    (room : ∀ p, (s.port p).events.length + (brokenEvents s reason which p).length ≤ 8) :
    Told s (s.endHolds (.broken reason) which) (brokenEvents s reason which) := by
  have one : ∀ (t : State) (h : HoldId),
      (∀ p, (t.port p).events.length + (breakEvent t reason which h p).length ≤ 8) →
        Told t (if (t.hold h).any which then t.endHold h (.broken reason) else t) (breakEvent t reason which h) := by
    intro t h room
    by_cases met : (t.hold h).any which = true
    · rw [if_pos met]
      obtain ⟨hold, found, broken⟩ := (Option.any_eq_true ..).1 met
      have own := room hold.owner
      simp only [breakEvent, found, Option.any_some, decide_true, broken, Bool.and_self, if_true] at own
      refine (told_endHold found reason (by simpa using own)).congr fun p => ?_
      simp [breakEvent, found, broken, eq_comm]
    · rw [if_neg met]
      refine (Told.refl t).congr fun p => ?_
      cases found : t.hold h with
      | none => simp [breakEvent, found]
      | some hold =>
        rw [found, Option.any_some] at met
        simp [breakEvent, found, met]
  have other : ∀ (t : State) (h g : HoldId), g ≠ h →
      breakEvent (if (t.hold h).any which then t.endHold h (.broken reason) else t) reason which g =
        breakEvent t reason which g := by
    intro t h g different
    split
    · funext p; simp only [breakEvent, hold_endHold, if_neg different]
    · rfl
  have all := told_foldl (fun t h p => breakEvent t reason which h p) one other allHolds s (List.nodup_finRange 16)
    fun p => by rw [brokenEvents_eq]; exact room p
  exact all.congr fun p => brokenEvents_eq ..

/-! ### Entry to DRAINING -/

/-- The state at entry to DRAINING before the drain completion test (R12). -/
def State.drained (s : State) (reason : Drain) : State :=
  ((s.setDevice (.draining reason)).endHolds (.broken .drain) fun _ => true).raiseDeviceState .draining

theorem reparked_drained (s : State) (reason : Drain) (b : BankId) :
    Reparked (s.bank b) ((s.drained reason).bank b) := by
  rw [State.drained, (reports_raiseDeviceState ..).bank]
  exact reparked_endHolds (s.setDevice (.draining reason)) _ _ b

/-- While an entry is queued the drain is not complete (R14). -/
theorem drainDone_of_queue {s : State} {b : BankId} (h : (s.bank b).queue ≠ []) : s.drainDone = false := by
  have some : ¬∀ c (hc : c < 8), s.banks[c].queue = [] ∧ servesEntry s.banks[c] = false ∧ s.banks[c].owed = 0 :=
    fun all => h (all b b.isLt).1
  simp only [State.drainDone, Bool.and_eq_false_iff]
  left
  rw [← Bool.not_eq_true]
  simpa [Vector.all_toList, Vector.all_eq_true, and_assoc] using some

theorem enterDraining_of_queue {s : State} (h : ∃ b, (s.bank b).queue ≠ []) (reason : Drain) :
    s.enterDraining reason = s.drained reason := by
  obtain ⟨b, waits⟩ := h
  obtain ⟨move, -, queue⟩ := (reparked_drained s reason b).queue
  have left : ((s.drained reason).bank b).queue ≠ [] := by rw [queue]; simpa using waits
  change (s.drained reason).drainTest = _
  simp [State.drainTest, drainDone_of_queue left]

theorem steady_drained (s : State) (reason : Drain) : Steady (s.setDevice (.draining reason)) (s.drained reason) :=
  (steady_endHolds ..).trans (reports_raiseDeviceState ..).steady

theorem tables_drained (s : State) (reason : Drain) : TablesKept (s.setDevice (.draining reason)) (s.drained reason) :=
  (tables_endHolds ..).trans (reports_raiseDeviceState ..).tables

theorem calm_drained (s : State) (reason : Drain) : Calm s (s.drained reason) :=
  ((calm_setDevice ..).trans (calm_endHolds ..)).trans (reports_raiseDeviceState ..).calm

theorem hold_drained (s : State) (reason : Drain) (h : HoldId) : (s.drained reason).hold h = none := by
  rw [State.drained, (reports_raiseDeviceState ..).hold, hold_endHolds]
  cases (s.setDevice (.draining reason)).hold h <;> rfl

/-- Entry to DRAINING raises HOLD_BROKEN for every hold and then DEVICE_STATE(DRAINING) (R12, R16, R137). -/
theorem raised_drained (s : State) (reason : Drain) : Raised s (s.drained reason) fun p =>
    brokenEvents s .drain (fun _ => true) p ++ [.deviceState .draining] := by
  refine raised_of_told fun room => ?_
  have broken := told_endHolds (s := s.setDevice (.draining reason)) (reason := .drain) (which := fun _ => true) fun p => by
    have := room p
    simp only [List.length_append, List.length_singleton] at this
    exact Nat.le_of_succ_le this
  have news := told_raiseDeviceState (s := (s.setDevice (.draining reason)).endHolds (.broken .drain) fun _ => true)
    (fun p => by
      have total := room p
      have grown := broken.length p
      simp only [List.length_append, List.length_singleton] at total
      exact Nat.lt_of_le_of_lt grown (Nat.lt_of_succ_le total)) .draining
  exact Told.trans (first := fun _ => []) (told_of_ports (t := s.setDevice (.draining reason)) rfl rfl) (broken.trans news)

/-- Each entry of a bank that is parked is parked on a hold that was FREE in `s` or is ACTIVE now. -/
def ParkedWithin (s t : State) (b : BankId) : Prop :=
  ∀ entry ∈ (t.bank b).queue, ∀ h, entry.parkedOn = some h → s.hold h = none ∨ t.hold h ≠ none

theorem retestBank_queue (s : State) (h : HoldId) (bank : Bank) :
    (s.retestBank h bank).queue = bank.queue.map (s.retestEntry h) := by
  unfold State.retestBank
  dsimp only
  split
  · rfl
  · exact dueIfIdle_queue _

/-- The re-test at the end of a hold parks entries on ACTIVE holds alone (R134). -/
theorem parkedWithin_endHold {s t : State} {b : BankId} (inv : ParkedWithin s t b) (g : HoldId) (cause : HoldEnd) :
    ParkedWithin s (t.endHold g cause) b := by
  cases found : t.hold g with
  | none =>
    have idle : t.endHold g cause = t := by simp only [State.endHold, found]
    rw [idle]; exact inv
  | some hold =>
    have ended : t.endHold g cause = ((t.setHold g none).reportHoldEnd g hold cause).retest g := by
      simp only [State.endHold, found]
    have told := reports_reportHoldEnd (t.setHold g none) g hold cause
    intro entry mem h parked
    rw [ended, State.retest, State.bank_mapBanks, retestBank_queue, told.bank] at mem
    obtain ⟨old, waited, rfl⟩ := List.mem_map.1 mem
    unfold State.retestEntry at parked
    split at parked
    · have active := List.find?_some parked
      right
      rw [ended]
      change ((t.setHold g none).reportHoldEnd g hold cause).hold h ≠ none
      intro free
      simp [free] at active
    · next other =>
      refine (inv old waited h parked).imp id fun active => ?_
      rw [hold_endHold, if_neg fun same : h = g => other (same ▸ parked)]
      exact active

/-- After the end of all holds, an entry that is parked is parked on a hold that was FREE before (R108, R134). -/
theorem parked_endHolds (s : State) (cause : HoldEnd) (b : BankId) :
    ∀ entry ∈ ((s.endHolds cause fun _ => true).bank b).queue, ∀ h, entry.parkedOn = some h → s.hold h = none := by
  have within : ParkedWithin s (s.endHolds cause fun _ => true) b := by
    refine List.foldlRecOn (motive := fun (t : State) => ParkedWithin s t b) _ _ (fun _ _ h _ => ?_) fun t inv g _ => ?_
    · cases s.hold h <;> simp
    · split
      · exact parkedWithin_endHold inv g cause
      · exact inv
  intro entry mem h parked
  refine (within entry mem h parked).resolve_right fun active => active ?_
  rw [hold_endHolds]
  cases s.hold h <;> rfl

theorem parked_drained (s : State) (reason : Drain) (b : BankId) :
    ∀ entry ∈ ((s.drained reason).bank b).queue, entry.parkedOn ≠ none →
      ∃ h, s.hold h = none ∧ entry.parkedOn = some h := by
  intro entry mem parked
  obtain ⟨h, on⟩ := Option.ne_none_iff_exists'.1 parked
  rw [State.drained, (reports_raiseDeviceState ..).bank] at mem
  exact ⟨h, parked_endHolds (s.setDevice (.draining reason)) _ b entry mem h on, on⟩

/-! ### Executions -/

/-- The execution of a command that decodes and is permitted, in the row that names it (R168 to R171). -/
theorem execution_of_executes {s : State} {command : QueuedCommand} {which : Command} (h : s.Executes command which) :
    s.execution (names which) = (s.popped.commandEffect command.source command.block which).1.concluded command
      (s.popped.commandEffect command.source command.block which).2 := by
  rw [execution_of_heads h.1 (names_of_blockCommand h.2.1), execute_of_executes h]

theorem told_popped (s : State) : Told s s.popped fun _ => [] := told_of_ports rfl rfl

/-- Events raised from the state in which an execution begins are raised from the state before it. -/
theorem raised_of_popped {s t : State} {events : PortId → List Event} (h : Raised s.popped t events) : Raised s t events := h

end Sys2Proof.Machine
end

section
/-! How many events reporting can place: an offer places at most one LOG_ATTENTION, and none while the attention flag stands with
its condition (R158, R161). -/

namespace Sys2Proof.Machine

/-! ### The attention condition under an offer -/

theorem mergeNewest_codes (log : List FaultRecord) :
    (mergeNewest log).map (fun record => record.fault.code) = log.map fun record => record.fault.code := by
  induction log with
  | nil => rfl
  | cons head rest ih =>
    cases rest with
    | nil => rfl
    | cons next others => simpa [mergeNewest] using ih

/-- An offer never ends the attention condition, and leaves the attention flag and the masks (R154, R158). -/
theorem logOffer_condition (u : FaultUnit) (stamp : Word) (fault : Offer) :
    (u.condition = true → (logOffer u stamp fault).1.condition = true) ∧
      (logOffer u stamp fault).1.attention = u.attention := by
  have codes : ∀ (mask : BitVec 7) (log : List FaultRecord), (log.any fun record => inMask mask record.fault.code) =
      (log.map fun record => record.fault.code).any (inMask mask) := fun _ _ => by rw [List.any_map]; rfl
  unfold logOffer
  split
  · exact ⟨id, rfl⟩
  · split
    · refine ⟨fun h => ?_, rfl⟩
      simp only [FaultUnit.condition, FaultUnit.alertRecord, codes, mergeNewest_codes] at h ⊢
      exact h
    · split
      · refine ⟨fun h => ?_, rfl⟩
        simp only [FaultUnit.condition, FaultUnit.alertRecord, storeRecord, List.any_append, Bool.or_eq_true] at h ⊢
        exact h.imp .inl id
      · refine ⟨fun _ => ?_, rfl⟩
        simp [FaultUnit.condition]

/-- The attention flag stands, and so does its condition: no further LOG_ATTENTION is raised (R158). -/
def FaultUnit.alerted (u : FaultUnit) : Bool := u.condition && u.attention

theorem alerted_logOffer {u : FaultUnit} (h : u.alerted = true) (stamp : Word) (fault : Offer) :
    (logOffer u stamp fault).1.alerted = true := by
  obtain ⟨condition, attention⟩ := logOffer_condition u stamp fault
  simp only [FaultUnit.alerted, Bool.and_eq_true] at h ⊢
  exact ⟨condition h.1, attention.trans h.2⟩

/-- The events of a port, and the one LOG_ATTENTION that may still come. -/
def State.eventLoad (s : State) (p : PortId) : Nat :=
  (s.port p).events.length + if s.faults.alerted then 0 else 1

theorem eventLoad_modFaults {s : State} {f : FaultUnit → FaultUnit} (h : s.faults.alerted = true → (f s.faults).alerted = true)
    (p : PortId) : (s.modFaults f).eventLoad p ≤ s.eventLoad p := by
  change (s.port p).events.length + (if (f s.faults).alerted then 0 else 1) ≤ _
  unfold State.eventLoad
  by_cases standing : s.faults.alerted = true
  · simp [standing, h standing]
  · simp only [standing, Bool.false_eq_true, if_false]
    split <;> omega

theorem events_modPort (s : State) (p q : PortId) (f : Port → Port) (h : ∀ port, (f port).events = port.events) :
    ((s.modPort p f).port q).events = (s.port q).events := by
  rw [State.port_modPort]; split
  · next e => subst e; exact h _
  · rfl

theorem events_placeEvent (s : State) (p q : PortId) (e : Event) :
    ((s.placeEvent p e).port q).events.length = (s.port q).events.length + if q = p then 1 else 0 := by
  have length := congrArg List.length (eventsOf_placeEvent s p q e)
  simp only [State.eventsOf, List.length_map, List.length_append] at length
  rw [length]
  split <;> rfl

/-- Raising an event places at most that one, where the report of a lost one places none. -/
theorem eventLoad_raiseWith {lost : State → State} (h : ∀ s p, (lost s).eventLoad p ≤ s.eventLoad p) (s : State) (p q : PortId)
    (e : Event) : (s.raiseWith lost p e).eventLoad q ≤ s.eventLoad q + if q = p then 1 else 0 := by
  unfold State.raiseWith
  split
  · omega
  · split
    · have faults : (s.placeEvent p e).faults = s.faults := rfl
      unfold State.eventLoad
      rw [events_placeEvent, faults]; omega
    · refine Nat.le_trans (h _ q) ?_
      simp only [State.eventLoad]
      rw [events_modPort _ _ _ _ (by intro; rfl), State.modPort_faults]
      omega

theorem alerted_raiseWith {lost : State → State} (h : ∀ s : State, s.faults.alerted = true → (lost s).faults.alerted = true)
    {s : State} (standing : s.faults.alerted = true) (p : PortId) (e : Event) :
    (s.raiseWith lost p e).faults.alerted = true := by
  unfold State.raiseWith
  split
  · exact standing
  · split
    · exact standing
    · exact h _ standing

/-- LOG_ATTENTION is one event for each port at most (R158). -/
theorem raiseAttention_load {s : State} (h : s.faults.alerted = true) (q : PortId) :
    s.raiseAttention.faults.alerted = true ∧ s.raiseAttention.eventLoad q ≤ s.eventLoad q + 1 := by
  have fold : ∀ (list : List PortId) (t : State), list.Nodup → t.faults.alerted = true →
      let u := list.foldl (fun (t : State) (p : PortId) => if (t.port p).config.maskAttention then
        t.raiseWith (fun t => t.modFaults fun u => (logOffer u t.tickCount (eventLost p)).1) p .logAttention else t) t
      u.faults.alerted = true ∧ u.eventLoad q ≤ t.eventLoad q + if q ∈ list then 1 else 0 := by
    intro list
    induction list with
    | nil => exact fun t _ standing => ⟨standing, by simp⟩
    | cons p rest ih =>
      intro t nodup standing
      obtain ⟨fresh, nodup⟩ := List.nodup_cons.1 nodup
      obtain ⟨first, load⟩ : let u := (if (t.port p).config.maskAttention then
          t.raiseWith (fun t => t.modFaults fun u => (logOffer u t.tickCount (eventLost p)).1) p .logAttention else t)
          u.faults.alerted = true ∧ u.eventLoad q ≤ t.eventLoad q + if q = p then 1 else 0 := by
        dsimp only
        split
        · exact ⟨alerted_raiseWith (fun _ k => alerted_logOffer k ..) standing ..,
            eventLoad_raiseWith (fun _ p => eventLoad_modFaults (fun k => alerted_logOffer k ..) p) ..⟩
        · exact ⟨standing, by omega⟩
      obtain ⟨others, more⟩ := ih _ nodup first
      refine ⟨others, Nat.le_trans more ?_⟩
      by_cases same : q = p
      · subst same; simp [fresh] at load ⊢; exact load
      · simp [same] at load ⊢; omega
  simpa [State.raiseAttention] using fold allPorts s (by decide) h

/-- An offer adds no event but a LOG_ATTENTION that was still to come (R154, R158). -/
theorem eventLoad_offer (s : State) (fault : Offer) (q : PortId) : (s.offer fault).eventLoad q ≤ s.eventLoad q := by
  obtain ⟨condition, attention⟩ := logOffer_condition s.faults s.tickCount fault
  have stored : (s.modFaults fun u => (logOffer u s.tickCount fault).1).eventLoad q ≤ s.eventLoad q :=
    eventLoad_modFaults (fun k => alerted_logOffer k ..) q
  unfold State.offer
  dsimp only
  split
  · unfold State.attentionTest
    rw [State.modFaults_faults]
    split
    · next holds =>
      split
      · exact stored
      · next unset =>
        have before : s.faults.alerted = false := by
          rw [attention] at unset
          simp [FaultUnit.alerted, Bool.eq_false_iff.2 unset]
        obtain ⟨-, load⟩ := raiseAttention_load (s := (s.modFaults fun u => (logOffer u s.tickCount fault).1).modFaults
          fun u => { u with attention := true }) (by simpa [FaultUnit.alerted, FaultUnit.condition, FaultUnit.alertRecord] using holds) q
        refine Nat.le_trans load ?_
        have events : (((s.modFaults fun u => (logOffer u s.tickCount fault).1).modFaults
          fun u => { u with attention := true }).port q).events.length = (s.port q).events.length := rfl
        simp only [State.eventLoad, events, before, State.modFaults_faults]
        have standing : ({ (logOffer s.faults s.tickCount fault).1 with attention := true } : FaultUnit).alerted = true := by
          simpa [FaultUnit.alerted, FaultUnit.condition, FaultUnit.alertRecord] using holds
        simp [standing]
    · next fails =>
      have before : s.faults.alerted = false := by
        rw [FaultUnit.alerted, Bool.eq_false_iff.2 fun k => fails (condition k), Bool.false_and]
      split
      · refine eventLoad_modFaults (f := fun u => { u with attention := false }) (fun k => ?_) q |>.trans stored
        simp only [FaultUnit.alerted, Bool.and_eq_true] at k
        exact absurd k.1 fails
      · exact stored
  · exact stored

theorem eventLoad_offerAll (faults : List Offer) (s : State) (q : PortId) :
    (s.offerAll faults).eventLoad q ≤ s.eventLoad q :=
  List.foldlRecOn (motive := fun (t : State) => t.eventLoad q ≤ s.eventLoad q) _ _ (Nat.le_refl _)
    fun _ h _ _ => (eventLoad_offer ..).trans h

theorem eventLoad_raise (s : State) (p q : PortId) (e : Event) :
    (s.raise p e).eventLoad q ≤ s.eventLoad q + if q = p then 1 else 0 :=
  eventLoad_raiseWith (fun _ _ => eventLoad_offer ..) ..

/-- An offer places at most one event in a queue. -/
theorem events_offer (s : State) (fault : Offer) (q : PortId) :
    ((s.offer fault).port q).events.length ≤ (s.port q).events.length + 1 := by
  have load := eventLoad_offer s fault q
  unfold State.eventLoad at load
  split at load <;> split at load <;> omega

/-! ### Events stay queued -/

/-- The events that were queued are, at the head of each queue. -/
structure Grows (s t : State) : Prop where
  events : ∀ p, s.eventsOf p <+: t.eventsOf p

theorem Grows.refl (s : State) : Grows s s := ⟨fun _ => List.prefix_rfl⟩

theorem Grows.trans {a b c : State} (h : Grows a b) (k : Grows b c) : Grows a c := ⟨fun p => (h.events p).trans (k.events p)⟩

theorem grows_of_ports {s t : State} (h : t.ports = s.ports) : Grows s t :=
  ⟨fun p => by unfold State.eventsOf State.port; rw [h]⟩

theorem grows_foldl {α : Type} {f : State → α → State} (h : ∀ s a, Grows s (f s a)) (list : List α) (s : State) :
    Grows s (list.foldl f s) :=
  List.foldlRecOn (motive := Grows s) _ _ (.refl s) fun _ k _ _ => k.trans (h _ _)

theorem grows_ite {c : Prop} [Decidable c] {s a b : State} (h : Grows s a) (k : Grows s b) : Grows s (if c then a else b) := by
  split
  · exact h
  · exact k

theorem grows_placeEvent (s : State) (p : PortId) (e : Event) : Grows s (s.placeEvent p e) :=
  ⟨fun q => by rw [eventsOf_placeEvent]; exact List.prefix_append ..⟩

theorem grows_raiseWith {lost : State → State} (h : ∀ s, Grows s (lost s)) (s : State) (p : PortId) (e : Event) :
    Grows s (s.raiseWith lost p e) := by
  refine grows_ite (.refl s) (grows_ite (grows_placeEvent ..) (Grows.trans ⟨fun q => ?_⟩ (h _)))
  rw [State.eventsOf, State.eventsOf, events_modPort]
  exact fun _ => rfl

theorem grows_modFaults (s : State) (f : FaultUnit → FaultUnit) : Grows s (s.modFaults f) := grows_of_ports rfl

theorem grows_attentionTest (s : State) : Grows s s.attentionTest := by
  refine grows_ite (grows_ite (.refl s) ((grows_modFaults ..).trans (grows_foldl (fun t p => ?_) _ _)))
    (grows_ite (grows_modFaults ..) (.refl s))
  exact grows_ite (grows_raiseWith (fun _ => grows_modFaults ..) ..) (.refl t)

theorem grows_offer (s : State) (fault : Offer) : Grows s (s.offer fault) :=
  grows_ite ((grows_modFaults ..).trans (grows_attentionTest _)) (grows_modFaults ..)

theorem grows_raise (s : State) (p : PortId) (e : Event) : Grows s (s.raise p e) := grows_raiseWith (fun _ => grows_offer ..) ..

end Sys2Proof.Machine
end

section
/-! SPI transactions at a settled state (R165, R166). -/

namespace Sys2Proof.Machine

theorem exec_spiStatus {s : State} (settled : s.Settled) (awake : s.device ≠ .reset) :
    exec .spiStatus s = .next s.spiStatusEvent := by
  rw [exec, execSpiStatus, settle_of_settled settled]
  exact congrArg _ (if_neg awake)

theorem exec_spiResult {s : State} (settled : s.Settled) (awake : s.device ≠ .reset) :
    exec .spiResult s = .next (s.drive (some s.mgmt.result)) := by
  rw [exec, execSpiResult, settle_of_settled settled]
  exact congrArg (fun bytes => Host.Outcome.next (s.drive bytes)) (if_neg awake)

theorem exec_spiBadOpcode {s : State} (settled : s.Settled) (awake : s.device ≠ .reset) {opcode : Byte}
    (unknown : ¬ (opcode = 1 ∨ opcode = 2 ∨ opcode = 3)) :
    exec (.spiBadOpcode opcode) s =
      .next (((s.modMgmt fun m => { m with spiError := true }).offer { code := .spiBadOpcode }).drive (some [])) := by
  rw [exec, execSpiBadOpcode, settle_of_settled settled]
  exact congrArg _ ((if_neg awake).trans (if_neg unknown))

theorem exec_spiSubmit {s : State} (settled : s.Settled) (awake : s.device ≠ .reset) (block : List Byte) :
    exec (.spiSubmit block) s = .next ((s.submit block).drive (some [])) := by
  rw [exec, execSpiSubmit, settleSubmit_of_settled settled]
  exact congrArg _ (if_neg awake)

theorem isEmpty_ite {α β : Type} (list : List α) [Decidable (list = [])] (a b : β) :
    (if list.isEmpty then a else b) = if list = [] then a else b := by
  cases list <;> simp

/-- Settles O40: each transaction acts on the settled state; an offer keeps all but the log and the event queues. -/
theorem spiTransactions : Obligations.SpiTransactions := by
  refine ⟨fun s settled awake => ⟨⟨_, exec_spiStatus settled awake, rfl, rfl⟩, exec_spiResult settled awake, ?_⟩, ?_⟩
  · intro opcode one two three
    have offered := reports_offer (s.modMgmt fun m => { m with spiError := true }) { code := .spiBadOpcode }
    refine ⟨_, exec_spiBadOpcode settled awake (fun h => h.elim one (·.elim two three)), ?_, rfl, offered.device, offered.memory,
      offered.banks, offered.apertures⟩
    exact congrArg (fun m : Mgmt => { m with miso := some [] }) offered.mgmt
  · intro s block settled awake
    rw [exec_spiSubmit settled awake]
    unfold State.submit
    dsimp only
    split
    · rfl
    · split
      · have offered := reports_offer (s.modMgmt fun m => { m with refused := true }) { code := .spiRefused }
        exact ⟨_, rfl, congrArg (fun m : Mgmt => { m with miso := some [] }) offered.mgmt, rfl, offered.device, offered.memory⟩
      · by_cases full : 8 ≤ s.mgmt.queue.length
        · rw [if_pos full, if_pos (c := Config.mgmtDepth ≤ _) full]
          rfl
        · rw [if_neg full, if_neg (c := Config.mgmtDepth ≤ _) full]
          unfold State.appendSubmit
          rw [← isEmpty_ite s.mgmt.queue]
          rfl

end Sys2Proof.Machine
end

section
/-! The clearing services of INITIALIZING (R10, R122). -/

namespace Sys2Proof.Machine

theorem all_banks (s : State) (test : Bank → Bool) : s.banks.toList.all test = true ↔ ∀ b, test (s.bank b) = true := by
  simp [State.bank, Fin.forall_iff]

theorem byteOf_clearUnits {s : State} (wf : s.MemoryWf) (b : BankId) (position address : Nat) :
    (s.clearUnits b position).byteOf address =
      if clears s.active.bankMap b position (address / 16) then 0 else s.byteOf address :=
  sparseRead_clear wf.data (fun address => clears s.active.bankMap b position (address / 16)) address

theorem unitHealth_clearUnits {s : State} (wf : s.MemoryWf) (b : BankId) (position : Nat) (unit : UnitAddr) :
    (s.clearUnits b position).unitHealth unit =
      if clears s.active.bankMap b position unit.toNat then .clean else s.unitHealth unit :=
  sparseRead_clear wf.health ..

/-- The bank after a clearing service that counts (R122). -/
def clearedBank (bank : Bank) : Bank :=
  { bank with state := .idle, decisionDue := true, clearPosition := bank.clearPosition + 1 }

theorem modBank_modBank (s : State) (b : BankId) (f g : Bank → Bank) :
    (s.modBank b f).modBank b g = s.modBank b fun bank => g (f bank) := by
  simp [State.modBank, State.bank]

/-- The state after a clearing service that counts, before the test whether the pass is complete (R122). -/
def State.cleared (s : State) (b : BankId) : State := (s.clearUnits b (s.bank b).clearPosition).modBank b clearedBank

/-- In INITIALIZING a clearing service counts, and the last one of the pass enters READY (R10, R122). -/
theorem completeClearing_of_initializing {s : State} (h : s.device = .initializing) (b : BankId) :
    s.completeClearing b = if (s.cleared b).clearingDone then (s.cleared b).enterReady else s.cleared b := by
  unfold State.completeClearing
  dsimp only
  rw [if_pos h, modBank_modBank]
  rfl

theorem clearingDone_iff (s : State) : s.clearingDone = true ↔ ∀ b, 128 ≤ (s.bank b).clearPosition :=
  (all_banks s _).trans (forall_congr' fun _ => decide_eq_true_iff)

/-- Settles O37: the memory and health of the units cleared, then the bank, then whether the pass is complete. -/
theorem clearingServiceZeroesItsUnits : Obligations.ClearingServiceZeroesItsUnits := by
  intro s b settled wf device serving
  obtain ⟨t, ends⟩ : ∃ t, t = if (s.cleared b).clearingDone then (s.cleared b).enterReady else s.cleared b := ⟨_, rfl⟩
  have trained : Trained (s.cleared b) t := by
    rw [ends]; split
    · exact trained_enterReady _
    · exact .refl _
  have calm : Calm (s.cleared b) t := by
    rw [ends]; split
    · exact calm_enterReady _
    · exact .refl _
  have own : t.bank b = clearedBank (s.bank b) := (trained.bank b).trans (State.bank_modBank_same ..)
  have other : ∀ c, c ≠ b → t.bank c = s.bank c := fun c h =>
    (trained.bank c).trans ((State.bank_modBank ..).trans (if_neg fun e => h e.symm))
  refine ⟨t, ?_, fun unit => ?_, by rw [own]; rfl, by rw [own]; rfl, ?_, trained.mgmt, fun c => ?_⟩
  · rw [exec, execClearingService, settle_of_settled settled, ends, ← completeClearing_of_initializing device]
    exact congrArg _ (if_pos serving)
  · have health : t.unitHealth unit =
        if clears s.active.bankMap b (s.bank b).clearPosition unit.toNat then .clean else s.unitHealth unit := by
      rw [State.unitHealth, calm.health]
      exact unitHealth_clearUnits wf b (s.bank b).clearPosition unit
    have byte : ∀ k < 16, t.byteOf (unit.toNat * 16 + k) =
        if clears s.active.bankMap b (s.bank b).clearPosition unit.toNat then 0 else s.byteOf (unit.toNat * 16 + k) := by
      intro k small
      have place : (unit.toNat * 16 + k) / 16 = unit.toNat := by omega
      have read := byteOf_clearUnits wf b (s.bank b).clearPosition (unit.toNat * 16 + k)
      rw [place] at read
      rw [State.byteOf, calm.memory]
      exact read
    split
    · next inside =>
      have cleared : clears s.active.bankMap b (s.bank b).clearPosition unit.toNat = true := decide_eq_true inside
      simp only [cleared, if_true] at health byte
      exact ⟨health, byte⟩
    · next outside =>
      have kept : clears s.active.bankMap b (s.bank b).clearPosition unit.toNat = false := decide_eq_false outside
      simp only [kept, Bool.false_eq_true, if_false] at health byte
      exact ⟨health, byte⟩
  · have pass : (s.cleared b).clearingDone = true ↔
        (s.bank b).clearPosition + 1 ≥ 128 ∧ ∀ c, c ≠ b → (s.bank c).clearPosition ≥ 128 := by
      rw [clearingDone_iff]
      refine ⟨fun all => ⟨?_, fun c h => ?_⟩, fun ⟨last, rest⟩ c => ?_⟩
      · simpa [← trained.bank b, own, clearedBank] using all b
      · simpa [← trained.bank c, other c h] using all c
      · rw [← trained.bank c]
        by_cases same : c = b
        · rw [same, own]; exact last
        · rw [other c same]; exact rest c same
    rw [ends, apply_ite State.device, enterReady_device]
    exact if_congr pass rfl device
  · by_cases same : c = b
    · rw [same, own]; rfl
    · rw [other c same]

end Sys2Proof.Machine
end

section
/-! Torn-down ports stay torn down, and the end of a drain (R14, R20). -/

namespace Sys2Proof.Machine

/-! ### Torn-down ports -/

/-- The SPI command slot alone moves (R164). -/
theorem promoteSpi_eq (m : Mgmt) : promoteSpi m = { m with spiSlot := (promoteSpi m).spiSlot } := by
  unfold promoteSpi
  split
  · split <;> rfl
  · rfl

theorem removeCommands_queue (p : PortId) (m : Mgmt) :
    (removeCommands p m).queue = m.queue.filter fun command => !fromPort p command := by
  rw [removeCommands, promoteSpi_eq]

/-- A teardown leaves of the port what R20 says. -/
theorem Torn.tornDown {p : PortId} {cause : Teardown} {s t : State} (h : Torn p cause s t) : TornDown p s t where
  fifo := by rw [h.own]; rfl
  head := by rw [h.own]; rfl
  tags tag := by
    rw [State.tagHolder, h.own]
    simp [portAfter, emptyPort]
  egress := by rw [h.own]; rfl
  replay := by rw [State.link, h.own]; rfl
  slots k := by
    rw [State.slot, h.own]
    simp [portAfter]
  holds g hold found := by
    rw [h.hold] at found
    split at found
    · cases found
    · next kept => simpa [found] using kept
  entries b entry mem own := by
    obtain ⟨mark, marked, queue⟩ := (h.bank b).queue
    rw [queue] at mem
    obtain ⟨old, -, rfl⟩ := List.mem_map.1 mem
    rw [marked] at own ⊢
    simp only [Bool.or_eq_true, decide_eq_true_eq]
    exact .inr own
  commands command mem := by
    rw [h.mgmt, removeCommands_queue] at mem
    simpa using (List.mem_filter.1 mem).2
  config := by rw [h.own]; rfl

theorem Torn.config {p q : PortId} {cause : Teardown} {s t : State} (h : Torn p cause s t) :
    (t.port q).config = (s.port q).config := by
  by_cases same : q = p
  · subst same; exact h.tornDown.config
  · rw [h.others q same]

/-- The teardown of another port leaves a port torn down. -/
theorem TornDown.torn {p q : PortId} {cause : Teardown} {s t u : State} (h : TornDown p s t) (k : Torn q cause t u)
    (other : p ≠ q) : TornDown p s u where
  fifo := by rw [k.others p other]; exact h.fifo
  head := by rw [k.others p other]; exact h.head
  tags tag := by rw [State.tagHolder, k.others p other]; exact h.tags tag
  egress := by rw [k.others p other]; exact h.egress
  replay := by rw [State.link, k.others p other]; exact h.replay
  slots slot := by rw [State.slot, k.others p other]; exact h.slots slot
  holds g hold found := by
    rw [k.hold] at found
    split at found
    · cases found
    · exact h.holds g hold found
  entries b entry mem own := by
    obtain ⟨mark, marked, queue⟩ := (k.bank b).queue
    rw [queue] at mem
    obtain ⟨old, waited, rfl⟩ := List.mem_map.1 mem
    rw [marked] at own ⊢
    simp only [Bool.or_eq_true]
    exact .inl (h.entries b old (List.mem_of_mem_filter waited) own)
  commands command mem := by
    rw [k.mgmt, removeCommands_queue] at mem
    exact h.commands command (List.mem_of_mem_filter mem)
  config := k.config.trans h.config

/-- Training and what is reported with it leave a port torn down. -/
theorem TornDown.trained {p : PortId} {s t u : State} (h : TornDown p s t) (k : Trained t u) : TornDown p s u where
  fifo := by rw [(k.ports p).rest]; exact h.fifo
  head := by rw [(k.ports p).rest]; exact h.head
  tags tag := (k.tagHolder p tag).trans (h.tags tag)
  egress := (k.egress p).trans h.egress
  replay := by
    rcases (k.ports p).link with same | ⟨-, fresh⟩
    · rw [State.link, same]; exact h.replay
    · rw [State.link, fresh]; rfl
  slots slot := (k.slot p slot).trans (h.slots slot)
  holds g hold found := h.holds g hold ((k.hold g).symm.trans found)
  entries b := by rw [k.bank b]; exact h.entries b
  commands := by rw [k.mgmt]; exact h.commands
  config := (k.config p).trans h.config

/-- The teardowns of a list of ports leave each of them torn down, and each that was so before. -/
theorem tornDown_teardowns (cause : Teardown) (s : State) : ∀ (list : List PortId) (t : State),
    (∀ p, (t.port p).config = (s.port p).config) → (∀ p, TornDown p s t ∨ p ∈ list) →
      ∀ p, TornDown p s (list.foldl (fun (s : State) (p : PortId) => s.teardownCore p cause) t)
  | [], _, _, h, p => (h p).resolve_right (List.not_mem_nil)
  | q :: rest, t, config, h, p => by
    have torn := torn_teardownCore t q cause
    refine tornDown_teardowns cause s rest _ (fun r => torn.config.trans (config r)) (fun r => ?_) p
    by_cases same : r = q
    · subst same
      exact .inl { torn.tornDown with config := torn.config.trans (config r) }
    · rcases h r with done | waits
      · exact .inl (done.torn torn same)
      · exact .inr ((List.mem_cons.1 waits).resolve_left same)

/-! ### DEVICE_STATE after training -/

/-- Training places no event and no record. -/
theorem trainEnabled_view (s : State) : s.trainEnabled.faults = s.faults ∧ ∀ p, s.trainEnabled.eventsOf p = s.eventsOf p := by
  refine List.foldlRecOn (motive := fun (t : State) => t.faults = s.faults ∧ ∀ p, t.eventsOf p = s.eventsOf p) _ _
    ⟨rfl, fun _ => rfl⟩ fun t ⟨faults, events⟩ q _ => ?_
  split
  · refine ⟨faults, fun p => ?_⟩
    rw [State.eventsOf, State.port_modLink]
    split
    · next e => subst e; exact events _
    · exact events p
  · exact ⟨faults, events⟩

/-- Training and then DEVICE_STATE (R11, R16, R18). -/
theorem raised_trainEnabled (s : State) (news : StateNews) :
    Raised s (s.trainEnabled.raiseDeviceState news) fun _ => [.deviceState news] := by
  intro room
  obtain ⟨faults, events⟩ := trainEnabled_view s
  have told := told_raiseDeviceState (s := s.trainEnabled) (fun p => by
    have length := congrArg List.length (events p)
    simp only [State.eventsOf, List.length_map] at length
    rw [length]; exact room p) news
  exact ⟨told.faults.trans faults, fun p => by rw [told.queued, told.links, events]⟩

theorem raised_enterReady (s : State) : Raised s s.enterReady fun _ => [.deviceState .ready] :=
  raised_trainEnabled (s.setDevice .ready) .ready

end Sys2Proof.Machine
end

section
/-! The end of a drain (R14). -/

namespace Sys2Proof.Machine

theorem tables_trainEnabled (s : State) : TablesKept s s.trainEnabled := by
  refine List.foldlRecOn (motive := fun (t : State) => TablesKept s t) _ _ (.refl s) fun t h p _ => ?_
  split
  · exact h.trans ⟨rfl, rfl, rfl⟩
  · exact h

theorem tables_enterReady (s : State) : TablesKept s s.enterReady := by
  have set : TablesKept s (s.setDevice .ready) := ⟨rfl, rfl, rfl⟩
  exact (set.trans (tables_trainEnabled _)).trans (reports_raiseDeviceState ..).tables

/-- A drain completion is due only where the device is draining and the test holds (R1, R14). -/
theorem drains_of_due {s : State} (h : s.nextDue = some .drain) : s.device.isDraining = true ∧ s.drainDone = true := by
  unfold State.nextDue at h
  split at h
  · cases h
  · split at h
    · cases h
    · split at h
      · next met => simpa using met
      · split at h
        · cases h
        · cases found : s.decideNext <;> rw [found] at h <;> cases h

theorem exec_drainComplete {s : State} (h : s.nextDue = some .drain) :
    exec .drainComplete s = .next s.completeDrain.finishParity := by
  have met := drains_of_due h
  rw [exec, execDrainComplete, prompted_of_due h (decide_eq_true rfl)]
  exact congrArg _ (if_pos (by simp [met]))

/-- Where the drain is complete no entry is queued (R14). -/
theorem queue_of_drainDone {s : State} (h : s.drainDone = true) (b : BankId) : (s.bank b).queue = [] :=
  Decidable.byContradiction fun waits => by simp [drainDone_of_queue waits] at h

/-- Where no entry is queued a teardown looks nothing up. -/
theorem teardownCore_of_empty {s : State} (h : ∀ b, (s.bank b).queue = []) (p : PortId) (cause : Teardown) :
    (∀ b, ((s.teardownCore p cause).bank b).queue = []) ∧ (s.teardownCore p cause).parityPending = s.parityPending := by
  refine ⟨fun b => ?_, ?_⟩
  · obtain ⟨mark, -, queue⟩ := ((torn_teardownCore s p cause).bank b).queue
    rw [queue, h b]; rfl
  · have leaving : s.leavingEntries p = [] := by simp [State.leavingEntries, h]
    obtain ⟨_, _, _, unbound⟩ := unbound_eq s p cause
    rw [teardownCore_eq, teardownQueues_snd, leaving, State.dropEntries, List.foldl_nil,
      (reports_teardownRecord ..).parityPending, State.modMgmt_parityPending, (tables_endHolds ..).parityPending, unbound]
    rfl

theorem parityPending_teardowns (cause : Teardown) : ∀ (list : List PortId) (s : State), (∀ b, (s.bank b).queue = []) →
    (list.foldl (fun (s : State) (p : PortId) => s.teardownCore p cause) s).parityPending = s.parityPending
  | [], _, _ => rfl
  | p :: rest, _, h =>
    (parityPending_teardowns cause rest _ (teardownCore_of_empty h p cause).1).trans (teardownCore_of_empty h p cause).2

/-- The state of a link after entry to READY or to HALTED (R11, R18). -/
theorem state_trained (enabled : Bool) (link : Link) :
    (if enabled = true ∧ link.state = .down then beginFresh link else link).state =
      if enabled = true ∧ link.state = .down then .training else link.state := by
  split <;> rfl

/-- Settles O39: by the reason of the drain; the test that made the completion due leaves no entry to look up. -/
theorem drainCompletes : Obligations.DrainCompletes := by
  intro s due settled
  obtain ⟨-, done⟩ := drains_of_due due
  rw [exec_drainComplete due]
  refine ⟨fun next draining => ?_, fun draining => ?_⟩
  · have ends : s.completeDrain.finishParity = { s with active := next }.enterReady := by
      have complete : s.completeDrain = { s with active := next }.enterReady := by
        simp only [State.completeDrain, draining]
      rw [complete]
      exact finishParity_of_settled ((tables_enterReady { s with active := next }).parityPending.trans settled)
    have trained := trained_enterReady { s with active := next }
    have calm := calm_enterReady { s with active := next }
    refine ⟨_, congrArg _ ends, enterReady_device _, trained.active, calm.staged, trained.banks, trained.apertures,
      trained.holds, trained.mgmt, calm.memory, calm.health, raised_enterReady { s with active := next }, fun p => ?_⟩
    rw [link_enterReady]
    exact state_trained ..
  · have complete : s.completeDrain = allPorts.foldl (fun (s : State) (p : PortId) => s.teardownCore p .quiesce)
        (s.setDevice .quiescent) := by simp only [State.completeDrain, draining]
    have parity := parityPending_teardowns .quiesce allPorts (s.setDevice .quiescent) fun b => queue_of_drainDone done b
    have ends : s.completeDrain.finishParity = s.completeDrain := by
      refine finishParity_of_settled ?_
      unfold State.ParitySettled
      rw [complete, parity]
      exact settled
    have calm := calm_completeDrain s
    refine ⟨_, congrArg _ ends, ?_, fun p => ⟨?_, ?_⟩, ?_, calm.memory, calm.health⟩
    · rw [complete, teardowns_device]; rfl
    · rw [complete]
      exact link_quiesced allPorts (s.setDevice .quiescent) (fun _ => .inr (mem_allPorts _)) p
    · rw [complete]
      exact tornDown_teardowns .quiesce s allPorts (s.setDevice .quiescent) (fun _ => rfl) (fun _ => .inr (mem_allPorts _)) p
    · rw [complete]
      exact List.foldlRecOn (motive := fun (t : State) => t.active = s.active) _ _ rfl fun _ h _ _ =>
        (torn_teardownCore ..).active.trans h

end Sys2Proof.Machine
end

section
/-! Training requests (R29 to R32). -/

namespace Sys2Proof.Machine

theorem onlyLink_modLink (s : State) (p : PortId) (f : Link → Link) : OnlyLink p s (s.modLink p f) := by
  refine ⟨?_, fun q other => ?_, rfl⟩
  · rw [State.port_modLink, if_pos rfl]
  · rw [State.port_modLink, if_neg fun e : p = q => other e.symm]

theorem onlyLink_trans {p : PortId} {a b c : State} (h : OnlyLink p a b) (k : OnlyLink p b c) : OnlyLink p a c := by
  obtain ⟨port, others, rest⟩ := h
  obtain ⟨port', others', rest'⟩ := k
  refine ⟨?_, fun q other => (others' q other).trans (others q other), ?_⟩
  · exact (congrArg (fun port : Port => { port with link := (a.port p).link }) port').trans port
  · exact (congrArg (fun t : State => { t with ports := a.ports, ticksDue := a.ticksDue }) rest').trans rest

/-- A fresh request in TRAINING is answered, and completes training where the engine's own was (R31). -/
theorem acceptFreshRequest_of_training {s : State} {p : PortId} (h : (s.link p).state = .training) :
    s.acceptFreshRequest p = if (s.link p).answerReceived then (s.modLink p answerRequest).modLink p completeFresh
      else s.modLink p answerRequest := by
  have link : (s.modLink p answerRequest).link p = answerRequest (s.link p) := by rw [State.link_modLink, if_pos rfl]
  have state : (answerRequest (s.link p)).state = .training := h
  unfold State.acceptFreshRequest State.trainingTest
  dsimp only
  rw [link, state]
  cases received : (s.link p).answerReceived <;> simp [answerRequest, received]

/-- A change of a link that keeps an empty replay buffer empty leaves a port torn down. -/
theorem TornDown.modLink {p : PortId} {s t : State} (h : TornDown p s t) {f : Link → Link}
    (keeps : ∀ link, link.replay = [] → (f link).replay = []) : TornDown p s (t.modLink p f) := by
  have port : (t.modLink p f).port p = { t.port p with link := f (t.link p) } := by rw [State.port_modLink, if_pos rfl]
  exact
    { fifo := by rw [port]; exact h.fifo
      head := by rw [port]; exact h.head
      tags := fun tag => by rw [State.tagHolder, port]; exact h.tags tag
      egress := by rw [port]; exact h.egress
      replay := by rw [State.link, port]; exact keeps _ h.replay
      slots := fun k => by rw [State.slot, port]; exact h.slots k
      holds := h.holds
      entries := h.entries
      commands := h.commands
      config := by rw [port]; exact h.config }

/-- Outside DRAINING a teardown ends without a drain completion (R14, R20). -/
theorem teardown_of_not_draining {s : State} (h : s.device.isDraining = false) (p : PortId) (cause : Teardown) :
    s.teardown p cause = s.teardownCore p cause := by
  unfold State.teardown State.drainTest
  rw [(torn_teardownCore s p cause).device, h]
  rfl

/-- A host reset outside DRAINING (R32): the teardown, the answer, and the lookups that failed. -/
theorem hostResetPort_of_not_draining {s : State} (h : s.device.isDraining = false) (p : PortId) :
    s.hostResetPort p = ((s.teardownCore p .hostReset).modLink p answerRequest).finishParity ∧
      (s.teardownCore p .hostReset).link p = emptyReplay (beginFresh (s.link p)) := by
  have link : (s.teardownCore p .hostReset).link p = emptyReplay (beginFresh (s.link p)) := by
    rw [State.link, (torn_teardownCore s p .hostReset).own]; rfl
  have training : ((s.teardownCore p .hostReset).link p).state = .training := by rw [link]; rfl
  have unanswered : ((s.teardownCore p .hostReset).link p).answerReceived = false := by rw [link]; rfl
  refine ⟨?_, link⟩
  unfold State.hostResetPort
  dsimp only
  rw [teardown_of_not_draining h, if_pos training, acceptFreshRequest_of_training training, unanswered]
  rfl

/-- Settles O13: the request by the link state; a host reset is the teardown with the answer after it. -/
theorem freshTrainRequestTrainsOrResets : Obligations.FreshTrainRequestTrainsOrResets := by
  refine ⟨fun s p settled => ?_, fun s p settled steady up => ?_⟩
  · have run : exec (.receiveTrainReq p) s = .next (s.freshRequest p) := by
      rw [exec, execReceiveTrainReq, settle_of_settled settled]
    rw [run]
    refine ⟨fun training waits => ⟨_, rfl, ?_⟩, fun training received => ⟨_, rfl, ?_⟩, fun idle => ?_⟩
    · have fresh : s.freshRequest p = s.modLink p answerRequest := by
        rw [State.freshRequest, training]
        exact (acceptFreshRequest_of_training training).trans (by rw [waits]; rfl)
      rw [fresh]
      exact ⟨onlyLink_modLink .., by rw [State.link_modLink, if_pos rfl]; rfl⟩
    · have fresh : s.freshRequest p = (s.modLink p answerRequest).modLink p completeFresh := by
        rw [State.freshRequest, training]
        exact (acceptFreshRequest_of_training training).trans (by rw [received]; rfl)
      rw [fresh]
      exact ⟨onlyLink_trans (onlyLink_modLink ..) (onlyLink_modLink ..),
        by rw [State.link_modLink, if_pos rfl, State.link_modLink, if_pos rfl]; rfl⟩
    · unfold State.freshRequest
      rcases idle with down | failed
      · rw [down]
      · rw [failed]
  · obtain ⟨reset, link⟩ := hostResetPort_of_not_draining steady p
    have run : exec (.hostReset p) s = .next ((s.teardownCore p .hostReset).modLink p answerRequest).finishParity := by
      rw [exec, execHostReset, settle_of_settled settled, State.freshRequest, ← reset]
      rcases up with active | retrain
      · rw [active]
      · rw [retrain]
    have answered : ((s.teardownCore p .hostReset).modLink p answerRequest).link p =
        answerRequest (emptyReplay (beginFresh (s.link p))) := by rw [State.link_modLink, if_pos rfl, link]
    have trained := trained_finishParity ((s.teardownCore p .hostReset).modLink p answerRequest)
    have calm := ((calm_teardownCore s p .hostReset).trans (calm_modLink _ p answerRequest)).trans (calm_finishParity _)
    refine ⟨_, run, (((torn_teardownCore s p .hostReset).tornDown).modLink (by intro _ empty; exact empty)).trained trained, ?_,
      calm.memory, calm.health⟩
    rw [trained.link_of_up (by rw [answered]; simp [answerRequest, emptyReplay, beginFresh]), answered]
    rfl

end Sys2Proof.Machine
end

section
/-! PROFILE_STAGE and PROFILE_COMMIT (R7, R8). -/

namespace Sys2Proof.Machine

/-- A management row whose command executes: the effect of the command, then the end of the execution (R170). -/
theorem exec_of_executes {i : Instr} {s t : State} {command : QueuedCommand} {which : Command} {outcome : Outcome}
    (row : exec i s = .next (s.execution (names which))) (h : s.Executes command which)
    (effect : s.popped.commandEffect command.source command.block which = (t, outcome)) :
    exec i s = .next (t.concluded command outcome) := by
  rw [row, execution_of_executes h, effect]

theorem toNat_eq_zero_iff (byte : Byte) : byte = 0 ↔ byte.toNat = 0 := (BitVec.toNat_inj (y := 0)).symm

theorem toNat_eq_one_iff (byte : Byte) : byte = 1 ↔ byte.toNat = 1 := (BitVec.toNat_inj (y := 1)).symm

theorem switchOf_eq (byte : Byte) : switchOf byte = if byte.toNat ≤ 1 then some (decide (byte.toNat = 1)) else none := by
  unfold switchOf
  rw [if_congr (toNat_eq_zero_iff byte) rfl rfl, if_congr (toNat_eq_one_iff byte) rfl rfl]
  split
  · next zero => simp [zero]
  · split
    · next one => simp [one]
    · rw [if_neg (by omega)]

theorem bankMapOf_eq (byte : Byte) : bankMapOf byte =
    if byte.toNat ≤ 1 then some (if byte.toNat = 0 then .interleave else .linear) else none := by
  unfold bankMapOf
  rw [if_congr (toNat_eq_zero_iff byte) rfl rfl, if_congr (toNat_eq_one_iff byte) rfl rfl]
  split
  · next zero => simp [zero]
  · split
    · next one => simp [one]
    · rw [if_neg (by omega)]

/-- Every field of the profile that a block carries is in range (R7, R174). -/
abbrev ProfileInRange (block : List Byte) : Prop :=
  (byteAt block 4).toNat ≤ 1 ∧ (2 ≤ (byteAt block 5).toNat ∧ (byteAt block 5).toNat ≤ 32) ∧ (byteAt block 6).toNat ≤ 4 ∧
    (byteAt block 7).toNat ≤ 1 ∧ (byteAt block 8).toNat ≤ 1 ∧ 1 ≤ numberAt block 10 2

/-- The fields of the profile that a block carries. -/
def profileFields (block : List Byte) : Profile :=
  { bankMap := if (byteAt block 4).toNat = 0 then .interleave else .linear, refreshInterval := (byteAt block 5).toNat,
    postponeLimit := (byteAt block 6).toNat, scrubOnCorrect := decide ((byteAt block 7).toNat = 1),
    logCorrected := decide ((byteAt block 8).toNat = 1), holdCeiling := numberAt block 10 2 }

theorem profileArgument_eq (block : List Byte) :
    profileArgument block = if ProfileInRange block then some (profileFields block) else none := by
  unfold profileArgument ProfileInRange
  dsimp only
  rw [bankMapOf_eq, switchOf_eq, switchOf_eq]
  by_cases map : (byteAt block 4).toNat ≤ 1
  · by_cases scrub : (byteAt block 7).toNat ≤ 1
    · by_cases log : (byteAt block 8).toNat ≤ 1
      · simp only [map, scrub, log, if_true, true_and, and_assoc]; rfl
      · simp [map, scrub, log]
    · simp [map, scrub]
  · simp [map]

theorem enterInitializing_bank (s : State) (b : BankId) :
    let bank := s.enterInitializing.bank b
    bank.owed = 0 ∧ bank.sinceRefresh = 0 ∧ bank.owedMax = 0 ∧ bank.clearPosition = 0 ∧ bank.state = (s.bank b).state := by
  have bank : s.enterInitializing.bank b = initializingBank (s.bank b) := State.bank_mapBanks ..
  rw [bank]
  unfold initializingBank dueIfIdle
  split
  · exact ⟨rfl, rfl, rfl, rfl, rfl⟩
  · exact ⟨rfl, rfl, rfl, rfl, rfl⟩

/-- PROFILE_COMMIT where the bank map is not locked against it (R8). -/
theorem doProfileCommit_of_unlocked {s : State} (h : s.device = .unconfigured ∨ s.staged.bankMap = s.active.bankMap) :
    s.doProfileCommit = (s.commit, .ok []) :=
  if_neg fun ⟨device, differs⟩ => h.elim device differs

theorem commit_of_kept {s : State} (h : s.device = .initializing ∨ s.device = .quiescent) :
    s.commit = { s with active := s.staged } := by
  unfold State.commit
  rcases h with device | device
  · rw [device]
  · rw [device]

/-- Settles O49: the argument field by field, then each row by the device state. -/
theorem profileCommands : Obligations.ProfileCommands := by
  refine ⟨fun block => ?_, fun s command => ⟨fun h => ?_, fun h device differs => ?_, fun h device => ?_, fun h device same => ?_,
    fun h device same => ?_, fun reason queued => ?_⟩⟩
  · dsimp only
    rw [profileArgument_eq]
    refine ⟨?_, fun profile found => ?_⟩
    · split
      · next fits => exact iff_of_true rfl fits
      · next fails => exact iff_of_false Bool.false_ne_true fails
    · split at found
      · exact (Option.some.inj found).symm
      · cases found
  · have effect : s.popped.commandEffect command.source command.block .profileStage =
      s.popped.doProfileStage command.block := rfl
    unfold State.doProfileStage at effect
    cases argument : profileArgument command.block with
    | none => rw [argument] at effect; exact exec_of_executes rfl h effect
    | some profile => rw [argument] at effect; exact exec_of_executes rfl h effect
  · exact exec_of_executes rfl h (if_pos ⟨device, differs⟩)
  · have run := exec_of_executes (i := .profileCommit) rfl h (doProfileCommit_of_unlocked (s := s.popped) (.inl device))
    have commit : s.popped.commit = { s.popped with active := s.staged }.enterInitializing := by
      have device : s.popped.device = .unconfigured := device
      rw [State.commit, device]; rfl
    rw [commit] at run
    exact ⟨_, run, rfl, rfl, enterInitializing_bank { s.popped with active := s.staged }, rfl⟩
  · have run := exec_of_executes (i := .profileCommit) rfl h (doProfileCommit_of_unlocked (s := s.popped) (.inr same))
    rw [commit_of_kept (s := s.popped) device] at run
    exact run
  · have run := exec_of_executes (i := .profileCommit) rfl h (doProfileCommit_of_unlocked (s := s.popped) (.inr same))
    have commit : s.popped.commit = s.popped.enterDraining (.profile s.staged) := by
      have device : s.popped.device = .ready := device
      rw [State.commit, device]; rfl
    rw [commit] at run
    exact run
  · dsimp only
    rw [enterDraining_of_queue queued]
    exact ⟨(steady_drained s reason).device, hold_drained s reason, (steady_drained s reason).active,
      (tables_drained s reason).apertures, raised_drained s reason⟩

end Sys2Proof.Machine
end

section
/-! QUIESCE, RESUME and HALT (R12, R15 to R18). -/

namespace Sys2Proof.Machine

theorem alertAsserted_of_halted {s : State} (h : s.device = .halted) : s.alertAsserted = true := by
  simp [State.alertAsserted, h]

/-- The record and the events of an entry to HALTED: those of its cause as if it were offered before, then DEVICE_STATE(HALTED)
(R18, notes/assumptions/25.md). -/
theorem told_enterHalted {s : State} (cause : Offer) (room : ∀ p, (s.port p).events.length ≤ 6) :
    let t := s.enterHalted cause
    t.faults = (s.offer cause).faults ∧ ∀ p, t.eventsOf p =
      (s.offer cause).eventsOf p ++ if (t.link p).state ∈ [LinkState.down, .failed] then [] else [.deviceState .halted] := by
  have view : SameView s (s.setDevice .halted) := ⟨rfl, rfl, rfl, rfl⟩
  have offered := sameView_offer view cause
  obtain ⟨faults, events⟩ := raised_trainEnabled ((s.setDevice .halted).offer cause) .halted fun p => by
    have grown := events_offer s cause p
    have small := room p
    rw [offered.port]
    change _ + 1 ≤ 8
    omega
  exact ⟨faults.trans offered.faults, fun p => (events p).trans (by rw [offered.eventsOf]; rfl)⟩

/-- Settles O50: each command by the entry to its device state. -/
theorem quiesceResumeAndHalt : Obligations.QuiesceResumeAndHalt := by
  refine ⟨fun s command h queued => ?_, fun s command => ⟨fun h ready => ?_, fun h away => ?_, fun h => ?_⟩⟩
  · have effect : s.popped.commandEffect command.source command.block .quiesce = (s.popped.enterDraining .quiesce, .ok []) :=
      rfl
    rw [enterDraining_of_queue (s := s.popped) queued] at effect
    have steady := steady_drained s.popped .quiesce
    have calm := calm_drained s.popped .quiesce
    exact ⟨_, exec_of_executes rfl h effect, steady.device, hold_drained s.popped _, parked_drained s.popped .quiesce,
      steady.active, (tables_drained s.popped _).apertures, calm.memory, calm.health,
      raised_of_popped (raised_drained s.popped .quiesce)⟩
  · have effect : s.popped.commandEffect command.source command.block .resume = (s.popped, .ok []) :=
      congrArg (·, Outcome.ok []) (if_pos ready)
    exact exec_of_executes rfl h effect
  · have effect : s.popped.commandEffect command.source command.block .resume = (s.popped.enterReady, .ok []) :=
      congrArg (·, Outcome.ok []) (if_neg away)
    have trained := trained_enterReady s.popped
    have calm := calm_enterReady s.popped
    refine ⟨_, exec_of_executes rfl h effect, enterReady_device _, fun p => ?_, trained.active, calm.staged, trained.banks,
      trained.apertures, trained.holds, calm.memory, calm.health, raised_of_popped (raised_enterReady s.popped)⟩
    rw [link_enterReady]
    exact state_trained ..
  · have effect : s.popped.commandEffect command.source command.block .halt =
      (s.popped.enterHalted { code := .haltCommand, port := senderPort command.source }, .ok []) := rfl
    have trained := trained_enterHalted s.popped { code := .haltCommand, port := senderPort command.source }
    have calm := calm_enterHalted s.popped { code := .haltCommand, port := senderPort command.source }
    have device := enterHalted_device s.popped { code := .haltCommand, port := senderPort command.source }
    refine ⟨_, exec_of_executes rfl h effect, device, fun p => ?_, fun room => ?_, alertAsserted_of_halted device,
      trained.banks, trained.apertures, trained.holds, calm.memory, calm.health⟩
    · rw [link_enterHalted]
      exact state_trained ..
    · have view : SameView s s.popped := ⟨rfl, rfl, rfl, rfl⟩
      have offered := sameView_offer view { code := .haltCommand, port := senderPort command.source }
      obtain ⟨faults, events⟩ :=
        told_enterHalted (s := s.popped) { code := .haltCommand, port := senderPort command.source } room
      refine ⟨faults.trans offered.faults, fun p => (events p).trans ?_⟩
      rw [offered.eventsOf]
      rfl

end Sys2Proof.Machine
end

section
/-! Slots that become STALE and the SLOTS_STALE events that tell it (R76, R78, R93). -/

namespace Sys2Proof.Machine

/-! ### The set of a SLOTS_STALE event -/

theorem foldl_weights (c : SlotId → Bool) : ∀ (list : List SlotId) (start : Nat),
    list.foldl (fun sum k => if c k then sum + 2 ^ k.val else sum) start =
      start + ((list.filter c).map fun k => 2 ^ k.val).sum
  | [], _ => rfl
  | k :: rest, start => by
    rw [List.foldl_cons, foldl_weights c rest]
    cases met : c k <;> simp [met, Nat.add_assoc]

/-- The weights of some of the slots sum to less than 256, and to 0 only where there is none. -/
theorem weights_lt (c : SlotId → Bool) : ((allSlots.filter c).map fun k => 2 ^ k.val).sum < 256 := by
  have part := (List.filter_sublist (p := c) (l := allSlots)).map fun k : SlotId => 2 ^ k.val
  exact Nat.lt_of_le_of_lt (part.sum_le_sum fun _ _ => Nat.zero_le _) (by decide)

theorem weights_eq_zero_iff (list : List SlotId) : (list.map fun k => 2 ^ k.val).sum = 0 ↔ list = [] := by
  cases list with
  | nil => simp
  | cons k rest => simp

theorem slotSet_eq (slots : Vector Slot 8) (which : Slot → Bool) : slotSet slots which =
    BitVec.ofNat 8 ((allSlots.filter fun k => which slots[k]).map fun k => 2 ^ k.val).sum := by
  rw [slotSet, foldl_weights fun k => which slots[k], Nat.zero_add]

theorem slotSet_eq_zero_iff (slots : Vector Slot 8) (which : Slot → Bool) :
    slotSet slots which = 0 ↔ (allSlots.filter fun k => which slots[k]) = [] := by
  have small := weights_lt fun k => which slots[k]
  rw [slotSet_eq, ← weights_eq_zero_iff, ← BitVec.toNat_inj, BitVec.toNat_ofNat, Nat.mod_eq_of_lt small]
  rfl

/-- The SLOTS_STALE event of a set of slots, none where it is empty (R76, R78, R93). -/
def staleNews (slots : BitVec 8) : List Event := if slots = 0 then [] else [.slotsStale slots]

/-- Where the BOUND slots that meet a condition are the ones that became STALE, SLOTS_STALE tells their set. -/
theorem staleEvents_of_staled {s t : State} {p : PortId} {which : SlotCopy → Bool}
    (h : ∀ k, t.slot p k = if boundTo which (s.slot p k) then staled (s.slot p k) else s.slot p k) :
    staleEvents s t p = staleNews (slotSet (s.port p).slots (boundTo which)) := by
  have fresh : ∀ k ∈ allSlots, (match s.slot p k, t.slot p k with | .bound _, .stale _ => true | _, _ => false) =
      boundTo which (s.port p).slots[k] := by
    intro k _
    change _ = boundTo which (s.slot p k)
    rw [h k]
    cases s.slot p k with
    | bound copy => cases met : which copy <;> simp [boundTo, staled, met]
    | empty => rfl
    | nullBound => rfl
    | stale copy => rfl
  have same := List.filter_congr fresh
  unfold staleEvents staleNews
  dsimp only
  rw [if_congr (slotSet_eq_zero_iff ..) rfl rfl, slotSet_eq]
  exact congrArg (fun list : List SlotId =>
    if list = [] then [] else [Event.slotsStale (BitVec.ofNat 8 (list.map fun k => 2 ^ k.val).sum)]) same

/-! ### Raising it -/

theorem told_raiseStale {s : State} {p : PortId} {slots : BitVec 8}
    (room : (s.port p).events.length + (staleNews slots).length ≤ 8) :
    Told s (s.raiseStale p slots) fun q => if q = p then staleNews slots else [] := by
  unfold State.raiseStale
  unfold staleNews at room ⊢
  by_cases none : slots = 0
  · rw [if_pos none, if_pos none]
    exact (Told.refl s).congr fun q => by simp
  · rw [if_neg none] at room ⊢
    rw [if_neg none]
    exact told_raise (Nat.lt_of_succ_le room) _

/-- SLOTS_STALE for every port, by the slots of an earlier state (R76, R78). -/
theorem told_raiseStaled {s : State} (before : State) {which : PortId → SlotCopy → Bool}
    (room : ∀ p, (s.port p).events.length + (staleNews (slotSet (before.port p).slots (boundTo (which p)))).length ≤ 8) :
    Told s (s.raiseStaled before which) fun p => staleNews (slotSet (before.port p).slots (boundTo (which p))) := by
  have one : ∀ (t : State) (q : PortId), (∀ p, (t.port p).events.length +
      (if p = q then staleNews (slotSet (before.port q).slots (boundTo (which q))) else []).length ≤ 8) →
        Told t (t.raiseStale q (slotSet (before.port q).slots (boundTo (which q)))) fun p =>
          if p = q then staleNews (slotSet (before.port q).slots (boundTo (which q))) else [] := by
    intro t q room
    have own := room q
    rw [if_pos rfl] at own
    exact told_raiseStale own
  have all := told_foldl (fun _ q p => if p = q then staleNews (slotSet (before.port q).slots (boundTo (which q))) else [])
    one (fun _ _ _ _ => rfl) allPorts s (by decide)
    (fun p => by
      rw [flatMap_allPorts p fun q => staleNews (slotSet (before.port q).slots (boundTo (which q)))]; exact room p)
  exact all.congr fun p => flatMap_allPorts p fun q => staleNews (slotSet (before.port q).slots (boundTo (which q)))

/-! ### The slots of one port -/

theorem slot_stalePort (s : State) (p : PortId) (which : SlotCopy → Bool) (k : SlotId) :
    (s.stalePort p which).slot p k = if boundTo which (s.slot p k) then staled (s.slot p k) else s.slot p k := by
  rw [State.slot, State.stalePort, State.port_modPort_same]
  simp only [State.slot, Fin.getElem_fin, Vector.getElem_map]
  rfl

theorem slot_stalePortSlots (s : State) (p : PortId) (which : SlotCopy → Bool) (k : SlotId) :
    (s.stalePortSlots p which).slot p k = if boundTo which (s.slot p k) then staled (s.slot p k) else s.slot p k :=
  ((steady_raiseStale ..).slot p k).trans (slot_stalePort ..)

theorem staleEvents_stalePortSlots (s : State) (p : PortId) (which : SlotCopy → Bool) :
    staleEvents s (s.stalePortSlots p which) p = staleNews (slotSet (s.port p).slots (boundTo which)) :=
  staleEvents_of_staled (slot_stalePortSlots s p which)

/-- A change of a port that touches neither its link nor its events tells nothing. -/
theorem told_modPort (s : State) (p : PortId) (f : Port → Port) (link : ∀ port, (f port).link = port.link)
    (events : ∀ port, (f port).events = port.events) : Told s (s.modPort p f) fun _ => [] := by
  have kept : ∀ q, ((s.modPort p f).port q).link = (s.port q).link ∧ ((s.modPort p f).port q).events = (s.port q).events := by
    intro q
    rw [State.port_modPort]
    split
    · next same => subst same; exact ⟨link _, events _⟩
    · exact ⟨rfl, rfl⟩
  exact ⟨rfl, fun q => (kept q).1, fun q => by simp [State.eventsOf, (kept q).2]⟩

theorem told_stalePortSlots {s : State} {p : PortId} {which : SlotCopy → Bool}
    (room : (s.port p).events.length + (staleNews (slotSet (s.port p).slots (boundTo which))).length ≤ 8) :
    Told s (s.stalePortSlots p which) fun q => if q = p then staleEvents s (s.stalePortSlots p which) p else [] := by
  have staled : Told s (s.stalePort p which) fun _ => [] := told_modPort _ _ _ (by intro; rfl) (by intro; rfl)
  have raised : Told (s.stalePort p which) (s.stalePortSlots p which) _ := told_raiseStale (by
    rw [State.stalePort, State.port_modPort_same]; exact room)
  rw [staleEvents_stalePortSlots]
  exact staled.trans raised

end Sys2Proof.Machine
end

section
/-! PORT_CONFIG and PORT_RESET (R23, R173). -/

namespace Sys2Proof.Machine

/-! ### The arguments -/

theorem configArgument_eq (block : List Byte) : configArgument block =
    { enabled := (block.getD 5 0).getLsbD 0, tier := Fin.ofNat 4 ((block.getD 6 0).toNat % 4)
      mgmtCapable := (block.getD 7 0).getLsbD 0, maskAttention := (block.getD 8 0).getLsbD 0
      maskFreed := (block.getD 8 0).getLsbD 1 } := by
  have low : ∀ value, field value 0 2 = value % 4 := fun value => by
    rw [field, Nat.pow_zero, Nat.div_one]; rfl
  rw [configArgument, low]
  rfl

theorem portArgument_of_le {block : List Byte} {p : PortId} (h : p.val = (block.getD 4 0).toNat) :
    portArgument block = some p := by
  have small : (byteAt block 4).toNat ≤ 3 := by rw [byteAt, ← h]; omega
  rw [portArgument]
  rw [if_pos small]
  refine congrArg some (Fin.ext ?_)
  rw [byteAt, ← h]
  exact Nat.mod_eq_of_lt p.isLt

theorem portArgument_of_gt {block : List Byte} (h : 3 < (block.getD 4 0).toNat) : portArgument block = none :=
  if_neg (Nat.not_le.2 h)

/-! ### Steps 1 and 2 of PORT_CONFIG -/

theorem withdraw_of_disable {s : State} {p : PortId} {new : PortConfig} (enabled : (s.port p).config.enabled = true)
    (disabled : new.enabled = false) : s.withdraw p new = s.teardown p .disable := by
  simp [State.withdraw, enabled, disabled]

theorem withdraw_of_kept {s : State} {p : PortId} {new : PortConfig}
    (kept : (s.port p).config.enabled = false ∨ new.enabled = true) : s.withdraw p new =
      if (s.port p).config.tier ≠ new.tier then s.stalePortSlots p fun _ => true else s := by
  have still : ((s.port p).config.enabled && !new.enabled) = false := by
    rcases kept with old | now
    · rw [old]; rfl
    · rw [now]; simp
  simp [State.withdraw, still]

theorem stalePortSlots_device (s : State) (p : PortId) (which : SlotCopy → Bool) :
    (s.stalePortSlots p which).device = s.device := (steady_raiseStale ..).device

theorem link_stalePortSlots (s : State) (p : PortId) (which : SlotCopy → Bool) :
    (s.stalePortSlots p which).link p = s.link p := by
  rw [State.stalePortSlots, (steady_raiseStale ..).link, State.link, State.stalePort, State.port_modPort_same]
  rfl

/-- Where the port is not disabled its link and the device state stay as they were. -/
theorem withdraw_keeps {s : State} {p : PortId} {new : PortConfig}
    (kept : (s.port p).config.enabled = false ∨ new.enabled = true) :
    (s.withdraw p new).link p = s.link p ∧ (s.withdraw p new).device = s.device := by
  rw [withdraw_of_kept kept]
  split
  · exact ⟨link_stalePortSlots .., stalePortSlots_device ..⟩
  · exact ⟨rfl, rfl⟩

theorem calm_withdraw (s : State) (p : PortId) (new : PortConfig) : Calm s (s.withdraw p new) :=
  calm_ite (calm_teardown ..) (calm_ite (calm_stalePortSlots ..) (.refl s))

/-! ### Steps 3 and 4 -/

/-- PORT_CONFIG starts training (R173, step 4). -/
def State.configStarts (s : State) (p : PortId) (new : PortConfig) : Bool :=
  !(s.port p).config.enabled && new.enabled && decide (((s.withdraw p new).link p).state = .down) &&
    configTrains (s.withdraw p new).device

theorem configure_eq (s : State) (p : PortId) (new : PortConfig) :
    let replaced := (s.withdraw p new).modPort p fun port => { port with config := new }
    s.configure p new = if s.configStarts p new then replaced.modLink p beginFresh else replaced := by
  have link : ((s.withdraw p new).modPort p fun port => { port with config := new }).link p = (s.withdraw p new).link p := by
    rw [State.link, State.port_modPort_same]; rfl
  dsimp only
  rw [State.configure, link]
  rfl

theorem port_configure (s : State) (p : PortId) (new : PortConfig) : (s.configure p new).port p =
    { (s.withdraw p new).port p with
      config := new
      link := if s.configStarts p new then beginFresh ((s.withdraw p new).link p) else (s.withdraw p new).link p } := by
  rw [configure_eq]
  split
  · rw [State.port_modLink, if_pos rfl, State.link, State.port_modPort_same]; rfl
  · rw [State.port_modPort_same]; rfl

theorem calm_configure (s : State) (p : PortId) (new : PortConfig) : Calm s (s.configure p new) := by
  have replaced := (calm_withdraw s p new).trans (calm_modPort _ p fun port => { port with config := new })
  rw [configure_eq]
  exact calm_ite (replaced.trans (calm_modLink ..)) replaced

theorem slot_configure (s : State) (p : PortId) (new : PortConfig) (k : SlotId) :
    (s.configure p new).slot p k = (s.withdraw p new).slot p k := by
  rw [State.slot, port_configure]; rfl

theorem configTrains_iff (device : DevState) :
    configTrains device = true ↔ device = .ready ∨ device.isDraining = true := by
  cases device <;> simp [configTrains, DevState.isDraining]

theorem link_configure (s : State) (p : PortId) (new : PortConfig) : (s.configure p new).link p =
    if s.configStarts p new then beginFresh ((s.withdraw p new).link p) else (s.withdraw p new).link p := by
  rw [State.link, port_configure]

/-- The disabling of a port outside DRAINING (R22, R173). -/
theorem configure_of_disable {s : State} {p : PortId} {new : PortConfig} (enabled : (s.port p).config.enabled = true)
    (disabled : new.enabled = false) (steady : s.device.isDraining = false) :
    ((s.configure p new).link p).state = (if (s.link p).state = .failed then .failed else .down) ∧
      ∀ k, (s.configure p new).slot p k = .empty := by
  have torn := torn_teardownCore s p .disable
  have withdrawn : s.withdraw p new = s.teardownCore p .disable :=
    (withdraw_of_disable enabled disabled).trans (teardown_of_not_draining steady ..)
  have idle : s.configStarts p new = false := by simp [State.configStarts, enabled]
  refine ⟨?_, fun k => ?_⟩
  · have link : (s.teardownCore p .disable).link p = linkAfter .disable (s.port p) := by rw [State.link, torn.own]; rfl
    rw [link_configure, idle, withdrawn]
    change ((s.teardownCore p .disable).link p).state = _
    rw [link]
    change (if (s.link p).state = .failed then s.link p else stopLink .down (s.link p)).state = _
    split
    · next failed => exact failed
    · rfl
  · rw [slot_configure, withdrawn]
    exact torn.tornDown.slots k

/-- A new tier stales the slots of a port that stays as it was enabled (R93, R173). -/
theorem slot_configure_of_tier {s : State} {p : PortId} {new : PortConfig}
    (kept : (s.port p).config.enabled = false ∨ new.enabled = true) (tier : (s.port p).config.tier ≠ new.tier) (k : SlotId) :
    (s.configure p new).slot p k = staled (s.slot p k) := by
  rw [slot_configure, withdraw_of_kept kept, if_pos tier, slot_stalePortSlots]
  cases s.slot p k <;> rfl

theorem raised_configure_of_tier {s : State} {p : PortId} {new : PortConfig} (enabled : (s.port p).config.enabled = true)
    (stays : new.enabled = true) (tier : (s.port p).config.tier ≠ new.tier) :
    Raised s (s.configure p new) fun q => if q = p then staleEvents s (s.configure p new) p else [] := by
  have idle : s.configStarts p new = false := by simp [State.configStarts, enabled]
  have ends : s.configure p new =
      (s.stalePortSlots p fun _ => true).modPort p fun port => { port with config := new } := by
    rw [configure_eq, idle, withdraw_of_kept (.inr stays), if_pos tier]; rfl
  have events : staleEvents s (s.configure p new) p = staleEvents s (s.stalePortSlots p fun _ => true) p := by
    unfold staleEvents
    simp only [slot_configure, withdraw_of_kept (.inr stays), if_pos tier]
  refine raised_of_told fun room => ?_
  rw [events] at room ⊢
  have own := room p
  rw [if_pos rfl, staleEvents_stalePortSlots] at own
  have replaced : Told (s.stalePortSlots p fun _ => true) (s.configure p new) fun _ => [] := by
    rw [ends]; exact told_modPort _ _ _ (by intro; rfl) (by intro; rfl)
  exact ((told_stalePortSlots own).trans replaced).congr fun q => List.append_nil _

/-- A port newly enabled trains where links run and are not HALTED (R173, step 4). -/
theorem link_configure_of_enable {s : State} {p : PortId} {new : PortConfig} (disabled : (s.port p).config.enabled = false)
    (enabled : new.enabled = true) (down : (s.link p).state = .down) : ((s.configure p new).link p).state =
      if s.device = .ready ∨ s.device.isDraining = true then .training else .down := by
  obtain ⟨link, device⟩ := withdraw_keeps (new := new) (.inl disabled)
  have starts : s.configStarts p new = configTrains s.device := by
    simp [State.configStarts, disabled, enabled, link, device, down]
  rw [link_configure, starts, link, apply_ite Link.state, if_congr (configTrains_iff s.device) rfl down]
  rfl

/-! ### PORT_RESET -/

/-- The reset of a port outside DRAINING, where links run in READY alone (R23). -/
theorem resetOfPort_eq {s : State} {p : PortId} (steady : s.device.isDraining = false) (awake : s.device ≠ .halted) :
    let cleared := (s.teardownCore p .portReset).modLink p clearCounters
    s.resetOfPort p =
      if (s.port p).config.enabled = true ∧ s.device = .ready then cleared.modLink p beginFresh else cleared := by
  have torn := torn_teardownCore s p .portReset
  have config : (((s.teardownCore p .portReset).modLink p clearCounters).port p).config = (s.port p).config := by
    rw [State.port_modLink, if_pos rfl]
    exact torn.config (q := p)
  have device : ((s.teardownCore p .portReset).modLink p clearCounters).device = s.device := by
    rw [State.modLink_device, torn.device]
  have runs : s.device.linksRun = true ↔ s.device = .ready := by
    revert steady awake
    cases s.device <;> simp [DevState.linksRun, DevState.isDraining]
  have starts : ((((s.teardownCore p .portReset).modLink p clearCounters).port p).config.enabled &&
      ((s.teardownCore p .portReset).modLink p clearCounters).device.linksRun) = true ↔
        (s.port p).config.enabled = true ∧ s.device = .ready := by
    rw [config, device, Bool.and_eq_true, runs]
  rw [State.resetOfPort, teardown_of_not_draining steady]
  exact if_congr starts rfl rfl

theorem tornDown_resetOfPort {s : State} {p : PortId} (steady : s.device.isDraining = false) (awake : s.device ≠ .halted) :
    TornDown p s (s.resetOfPort p) := by
  have cleared : TornDown p s ((s.teardownCore p .portReset).modLink p clearCounters) :=
    (torn_teardownCore s p .portReset).tornDown.modLink (by intro _ empty; exact empty)
  rw [resetOfPort_eq steady awake]
  split
  · exact cleared.modLink (by intro _ _; rfl)
  · exact cleared

theorem link_resetOfPort {s : State} {p : PortId} (steady : s.device.isDraining = false) (awake : s.device ≠ .halted) :
    (s.resetOfPort p).link p =
      if (s.port p).config.enabled = true ∧ s.device = .ready then
        beginFresh (clearCounters (linkAfter .portReset (s.port p)))
      else clearCounters (linkAfter .portReset (s.port p)) := by
  have torn : (s.teardownCore p .portReset).link p = linkAfter .portReset (s.port p) := by
    rw [State.link, (torn_teardownCore s p .portReset).own]; rfl
  have cleared : ((s.teardownCore p .portReset).modLink p clearCounters).link p =
      clearCounters (linkAfter .portReset (s.port p)) := by rw [State.link_modLink, if_pos rfl, torn]
  rw [resetOfPort_eq steady awake]
  split
  · rw [State.link_modLink, if_pos rfl, cleared]
  · exact cleared

theorem calm_resetOfPort (s : State) (p : PortId) : Calm s (s.resetOfPort p) := by
  have cleared := (calm_teardown s p .portReset).trans (calm_modLink _ p clearCounters)
  exact calm_ite (cleared.trans (calm_modLink ..)) cleared

/-- Settles O47: the port argument, the sender, and then the steps of each command. -/
theorem portCommands : Obligations.PortCommands := by
  refine ⟨configArgument_eq, fun s command => ⟨fun h beyond => ?_, fun h beyond => ?_, fun p named =>
    ⟨fun h own disabled => ?_, fun h own => ?_, fun h allowed => ?_, fun h other steady => ?_⟩⟩⟩
  · have effect : s.popped.doPortConfig command.source command.block = (s.popped, .rejected .badPort) := by
      rw [State.doPortConfig, portArgument_of_gt beyond]
    exact exec_of_executes rfl h effect
  · have effect : s.popped.doPortReset command.source command.block = (s.popped, .rejected .badPort) := by
      rw [State.doPortReset, portArgument_of_gt beyond]
    exact exec_of_executes rfl h effect
  · have effect : s.popped.doPortConfig command.source command.block = (s.popped, .selfTarget) := by
      rw [State.doPortConfig, portArgument_of_le named]
      exact if_pos ⟨own, disabled⟩
    exact exec_of_executes rfl h effect
  · have effect : s.popped.doPortReset command.source command.block = (s.popped, .selfTarget) := by
      rw [State.doPortReset, portArgument_of_le named]
      exact if_pos own
    exact exec_of_executes rfl h effect
  · have effect : s.popped.doPortConfig command.source command.block =
        (s.popped.configure p (configArgument command.block), .ok []) := by
      rw [State.doPortConfig, portArgument_of_le named]
      refine if_neg fun ⟨own, disabled⟩ => allowed.elim (fun other => other own) fun enabled => ?_
      exact Bool.false_ne_true (disabled.symm.trans enabled)
    have calm := calm_configure s.popped p (configArgument command.block)
    refine ⟨_, exec_of_executes rfl h effect, ?_, fun enabled disabled steady => ?_, fun kept tier k => ?_,
      fun enabled stays tier => ?_, fun disabled enabled down => ?_, calm.memory, calm.health⟩
    · rw [port_configure]
    · exact configure_of_disable (s := s.popped) enabled disabled steady
    · rw [slot_configure_of_tier (s := s.popped) kept tier]
      change staled (s.slot p k) = _
      cases s.slot p k <;> rfl
    · exact raised_of_popped (raised_configure_of_tier (s := s.popped) enabled stays tier)
    · exact link_configure_of_enable (s := s.popped) disabled enabled down
  · have effect : s.popped.doPortReset command.source command.block = (s.popped.resetOfPort p, .ok []) := by
      rw [State.doPortReset, portArgument_of_le named]
      exact if_neg other
    have awake : s.popped.device ≠ .halted := by
      intro halted
      have allowed := h.2.2
      rw [show s.device = .halted from halted] at allowed
      cases allowed
    have calm := calm_resetOfPort s.popped p
    have torn := tornDown_resetOfPort (s := s.popped) (p := p) steady awake
    have link := link_resetOfPort (s := s.popped) (p := p) steady awake
    refine ⟨_, exec_of_executes rfl h effect, { torn with config := torn.config }, ?_, ?_, ?_, ?_, calm.memory, calm.health⟩
    · rw [link]; split <;> rfl
    · rw [link]; split <;> rfl
    · rw [link]; split <;> rfl
    · rw [link, apply_ite Link.state]; rfl

end Sys2Proof.Machine
end

section
/-! What a teardown does to the aperture table: the binding and in-flight counts fall, and a RETIRING entry whose count reaches 0
is freed (R20, R79, R82). -/

namespace Sys2Proof.Machine

theorem entry_setSlot (s : State) (p : PortId) (k : SlotId) (new : Slot) (i : ApIndex) :
    ∃ n, (s.setSlot p k new).entry i = { s.entry i with bindings := n } := by
  have one : ∀ (t : State) (j : ApIndex) (f : Nat → Nat), ∃ n,
      (t.modEntry j fun entry => { entry with bindings := f entry.bindings }).entry i = { t.entry i with bindings := n } := by
    intro t j f
    rw [State.entry_modEntry]
    split
    · next same => subst same; exact ⟨_, rfl⟩
    · exact ⟨_, rfl⟩
  have counted : ∀ (t : State) (slot : Slot) (f : Nat → Nat), ∃ n, (match slotIndex slot with
      | some index => t.modEntry index fun entry => { entry with bindings := f entry.bindings }
      | none => t).entry i = { t.entry i with bindings := n } := by
    intro t slot f
    cases slotIndex slot with
    | none => exact ⟨_, rfl⟩
    | some index => exact one t index f
  obtain ⟨up, raised⟩ := counted s new (· + 1)
  obtain ⟨down, dropped⟩ := counted _ (s.slot p k) (· - 1)
  refine ⟨down, ?_⟩
  rw [State.setSlot, State.entry_modPort]
  exact dropped.trans (congrArg (fun entry : ApEntry => { entry with bindings := down }) raised)

theorem entry_setSlots (p : PortId) (new : Slot) (i : ApIndex) : ∀ (slots : List SlotId) (s : State), ∃ n,
    (slots.foldl (fun (s : State) (k : SlotId) => s.setSlot p k new) s).entry i = { s.entry i with bindings := n }
  | [], _ => ⟨_, rfl⟩
  | k :: rest, s => by
    obtain ⟨first, e⟩ := entry_setSlot s p k new i
    obtain ⟨n, h⟩ := entry_setSlots p new i rest (s.setSlot p k new)
    exact ⟨n, h.trans (by rw [e])⟩

/-- An entry after a teardown: its counts are lower, and a RETIRING one whose in-flight count reached 0 thereby may be freed. -/
theorem entry_teardownCore (s : State) (p : PortId) (cause : Teardown) (i : ApIndex) : ∃ n,
    let lowered := { s.entry i with bindings := n, inFlight := (s.entry i).inFlight - countOf i (s.leavingEntries p) }
    (s.teardownCore p cause).entry i = lowered ∨
      ((s.teardownCore p cause).entry i = freedEntry lowered ∧ (s.entry i).state = .retiring ∧ lowered.inFlight = 0 ∧
        0 < countOf i (s.leavingEntries p)) := by
  obtain ⟨n, unbound⟩ := entry_setSlots p .empty i allSlots (s.teardownQueues p cause).1
  have emptied : (s.teardownQueues p cause).1.entry i = (s.emptied p cause).entry i := by
    rw [teardownQueues_fst]
    split
    · rfl
    · rw [State.entry_promptAttempts]
  rw [emptied, emptied_entry] at unbound
  have recorded : (((((s.unbound p cause).endHolds .teardown fun hold => decide (hold.owner = p)).modMgmt
      (removeCommands p))).teardownRecord p cause).entry i =
        { s.entry i with bindings := n, inFlight := (s.entry i).inFlight - countOf i (s.leavingEntries p) } := by
    rw [(reports_teardownRecord ..).entry, State.entry_modMgmt, (tables_endHolds ..).entry]
    exact unbound
  have looked := entry_lookups (s.teardownQueues p cause).2
    ((((s.unbound p cause).endHolds .teardown fun hold => decide (hold.owner = p)).modMgmt (removeCommands p)).teardownRecord
      p cause) i
  refine ⟨n, ?_⟩
  rw [recorded, ← teardownCore_eq] at looked
  refine looked.imp id fun ⟨freed, retiring, mem⟩ => ⟨freed, retiring, ?_⟩
  rw [teardownQueues_snd] at mem
  obtain ⟨some, zero⟩ := zero_of_mem_dropEntries _ _ mem
  rw [entry_dropEntries] at zero
  exact ⟨zero, some⟩

end Sys2Proof.Machine
end

section
/-! DATAPATH_RESET (R24). -/

namespace Sys2Proof.Machine

/-! ### The entries that name an aperture -/

/-- The entries of a queue that name an index and are not orphaned (R82). -/
def countNaming (i : ApIndex) (queue : List Entry) : Nat :=
  (queue.filter fun entry => decide (entry.aperture = i) && !entry.orphaned).length

theorem entriesNaming_eq (s : State) (i : ApIndex) :
    s.entriesNaming i = (allBanks.map fun b => countNaming i (s.bank b).queue).sum := by
  rw [State.entriesNaming, List.length_flatMap]; rfl

theorem countOf_leavingEntries (s : State) (p : PortId) (i : ApIndex) : countOf i (s.leavingEntries p) =
    (allBanks.map fun b => countOf i ((s.bank b).queue.filter (leavesWith p (s.bank b)))).sum := by
  rw [countOf, State.leavingEntries, List.filter_flatMap, List.length_flatMap]; rfl

/-- The entries of a queue that name an index are those that stay and those that leave, where none that leaves is orphaned. -/
theorem countNaming_split (i : ApIndex) (leaves : Entry → Bool) : ∀ queue : List Entry,
    (∀ e ∈ queue, leaves e = true → e.orphaned = false) →
      countNaming i queue = countNaming i (queue.filter fun e => !leaves e) + countOf i (queue.filter leaves)
  | [], _ => rfl
  | e :: rest, h => by
    have tail := countNaming_split i leaves rest fun e mem => h e (List.mem_cons_of_mem _ mem)
    have head := h e List.mem_cons_self
    unfold countNaming countOf at tail ⊢
    cases going : leaves e with
    | true =>
      simp only [List.filter_cons, going, head going, Bool.not_true, Bool.not_false, Bool.and_true, if_true, Bool.false_eq_true,
        if_false] at tail ⊢
      split
      · simp only [List.length_cons]; omega
      · exact tail
    | false =>
      simp only [List.filter_cons, going, Bool.not_false, if_true, Bool.false_eq_true, if_false] at tail ⊢
      split
      · simp only [List.length_cons]; omega
      · exact tail

/-- What a teardown leaves of an entry in a queue (R20, step 3). -/
theorem BankTorn.mem {p : PortId} {before after : Bank} (h : BankTorn p before after) {e : Entry} (mem : e ∈ after.queue) :
    ∃ old ∈ before.queue, e.aperture = old.aperture ∧ e.orphaned = old.orphaned ∧ e.position = old.position := by
  obtain ⟨mark, marked, queue⟩ := h.queue
  rw [queue] at mem
  obtain ⟨old, waited, rfl⟩ := List.mem_map.1 mem
  have same := marked old
  exact ⟨old, List.mem_of_mem_filter waited, by rw [same], by rw [same], by rw [same]⟩

theorem BankTorn.countNaming {p : PortId} {before after : Bank} (h : BankTorn p before after) (i : ApIndex)
    (stays : ∀ e ∈ before.queue, e.orphaned = true → Machine.inService before e = true) :
    Machine.countNaming i before.queue =
      Machine.countNaming i after.queue + countOf i (before.queue.filter (leavesWith p before)) := by
  obtain ⟨mark, marked, queue⟩ := h.queue
  have kept : Machine.countNaming i after.queue =
      Machine.countNaming i (before.queue.filter fun e => !leavesWith p before e) := by
    have same : (fun entry : Entry => decide (entry.aperture = i) && !entry.orphaned) ∘ mark =
        fun entry => decide (entry.aperture = i) && !entry.orphaned := by
      funext e
      rw [Function.comp_apply, marked e]
    rw [Machine.countNaming, queue, List.filter_map, List.length_map, same, Machine.countNaming]
  rw [kept]
  refine countNaming_split i _ _ fun e mem leaves => ?_
  rw [leavesWith, Bool.and_eq_true, Bool.not_eq_true'] at leaves
  exact Bool.eq_false_iff.2 fun orphaned => Bool.false_ne_true (leaves.2.symm.trans (stays e mem orphaned))

/-! ### Orphans -/

/-- Every queued entry of an aperture is orphaned. -/
def AllOrphaned (i : ApIndex) (s : State) : Prop :=
  ∀ b, ∀ entry ∈ (s.bank b).queue, entry.aperture = i → entry.orphaned = true

/-- Every entry of an aperture is in service, or its in-flight count is the number of its entries that are not orphaned and only
entries in service are orphaned (R82). -/
def InFlightTrue (i : ApIndex) (s : State) : Prop :=
  (∀ b, ∀ entry ∈ (s.bank b).queue, entry.aperture = i → inService (s.bank b) entry = true) ∨
    ((s.entry i).inFlight = s.entriesNaming i ∧
      ∀ b, ∀ entry ∈ (s.bank b).queue, entry.orphaned = true → inService (s.bank b) entry = true)

/-- The teardowns of DATAPATH_RESET leave the aperture RETIRING with a true count, or its entries orphaned. -/
def Orphaning (i : ApIndex) (s : State) : Prop :=
  AllOrphaned i s ∨ ((s.entry i).state = .retiring ∧ InFlightTrue i s)

theorem BankTorn.inService_of_mem {p : PortId} {before after : Bank} (h : BankTorn p before after) {which : Entry → Prop}
    (keeps : ∀ e old : Entry, e.aperture = old.aperture → e.orphaned = old.orphaned → which e → which old)
    (all : ∀ e ∈ before.queue, which e → Machine.inService before e = true) :
    ∀ e ∈ after.queue, which e → Machine.inService after e = true := by
  intro e mem own
  obtain ⟨old, waited, aperture, orphaned, position⟩ := h.mem mem
  have served := all old waited (keeps e old aperture orphaned own)
  rw [h.inService, Machine.inService, position]
  exact served

theorem countOf_leaving_eq_zero {s : State} {i : ApIndex}
    (h : ∀ b, ∀ entry ∈ (s.bank b).queue, entry.aperture = i → inService (s.bank b) entry = true) (p : PortId) :
    countOf i (s.leavingEntries p) = 0 := by
  rw [countOf, List.length_eq_zero_iff, List.filter_eq_nil_iff]
  intro e mem own
  obtain ⟨b, -, waits⟩ := List.mem_flatMap.1 mem
  obtain ⟨queued, leaves⟩ := List.mem_filter.1 waits
  rw [leavesWith, h b e queued (of_decide_eq_true own)] at leaves
  simp at leaves

/-- Where the count is true, a teardown lowers it by the entries that leave. -/
theorem entriesNaming_teardownCore {s : State} {i : ApIndex} {p : PortId} {cause : Teardown}
    (stays : ∀ b, ∀ entry ∈ (s.bank b).queue, entry.orphaned = true → inService (s.bank b) entry = true) :
    s.entriesNaming i = (s.teardownCore p cause).entriesNaming i + countOf i (s.leavingEntries p) := by
  rw [entriesNaming_eq, entriesNaming_eq, countOf_leavingEntries, ← List.sum_map_add]
  refine congrArg List.sum (List.map_congr_left fun b _ => ?_)
  exact ((torn_teardownCore s p cause).bank b).countNaming i (stays b)

theorem allOrphaned_of_entriesNaming {s : State} {i : ApIndex} (h : s.entriesNaming i = 0) : AllOrphaned i s := by
  intro b entry mem own
  rw [State.entriesNaming, List.length_eq_zero_iff, List.flatMap_eq_nil_iff] at h
  have none := List.filter_eq_nil_iff.1 (h b (mem_allBanks b)) entry mem
  simpa [own] using none

theorem orphaning_teardownCore {i : ApIndex} {s : State} (h : Orphaning i s) (p : PortId) (cause : Teardown) :
    Orphaning i (s.teardownCore p cause) := by
  have torn := torn_teardownCore s p cause
  rcases h with orphaned | ⟨retiring, counted⟩
  · refine .inl fun b entry mem own => ?_
    obtain ⟨old, waited, aperture, same, -⟩ := (torn.bank b).mem mem
    rw [same]
    exact orphaned b old waited (aperture ▸ own)
  · obtain ⟨n, entry⟩ := entry_teardownCore s p cause i
    rcases counted with served | ⟨inFlight, stays⟩
    · have none := countOf_leaving_eq_zero served p
      rcases entry with lowered | ⟨-, -, -, some⟩
      · refine .inr ⟨by rw [lowered]; exact retiring, .inl fun b => ?_⟩
        exact (torn.bank b).inService_of_mem (which := fun e => e.aperture = i) (fun _ _ same _ own => same ▸ own) (served b)
      · omega
    · have total := entriesNaming_teardownCore (i := i) (p := p) (cause := cause) stays
      rcases entry with lowered | ⟨-, -, zero, -⟩
      · refine .inr ⟨by rw [lowered]; exact retiring, .inr ⟨?_, fun b => ?_⟩⟩
        · rw [lowered]
          change (s.entry i).inFlight - _ = _
          omega
        · exact (torn.bank b).inService_of_mem (which := fun e => e.orphaned = true) (fun _ _ _ same own => same ▸ own)
            (stays b)
      · have none : (s.teardownCore p cause).entriesNaming i = 0 := by
          change (s.entry i).inFlight - _ = 0 at zero
          omega
        exact .inl (allOrphaned_of_entriesNaming none)

/-! ### The teardowns of all ports -/

/-- What the teardowns leave of an entry: as it was but for its counts, or freed with nothing in flight where it was RETIRING. -/
def Lowered (before after : ApEntry) : Prop :=
  ∃ n, (∃ m, after = { before with bindings := n, inFlight := m }) ∨
    (before.state = .retiring ∧ after = { freedEntry before with bindings := n, inFlight := 0 })

theorem lowered_teardownCore {before : ApEntry} {s : State} {i : ApIndex} (h : Lowered before (s.entry i)) (p : PortId)
    (cause : Teardown) : Lowered before ((s.teardownCore p cause).entry i) := by
  obtain ⟨k, entry⟩ := entry_teardownCore s p cause i
  obtain ⟨n, ⟨m, same⟩ | ⟨retiring, freed⟩⟩ := h
  · rw [same] at entry
    rcases entry with lowered | ⟨freed, retiring, zero, -⟩
    · exact ⟨k, .inl ⟨_, lowered⟩⟩
    · refine ⟨k, .inr ⟨retiring, freed.trans ?_⟩⟩
      exact congrArg (fun m => ({ freedEntry before with bindings := k, inFlight := m } : ApEntry)) zero
  · rw [freed] at entry
    rcases entry with lowered | ⟨-, retiring, -⟩
    · exact ⟨k, .inr ⟨retiring, lowered.trans (by simp)⟩⟩
    · exact absurd retiring (by simp [freedEntry])

theorem link_teardowns (cause : Teardown) (p : PortId) : ∀ (list : List PortId) (s : State), list.Nodup →
    (list.foldl (fun (s : State) (p : PortId) => s.teardownCore p cause) s).link p =
      if p ∈ list then linkAfter cause (s.port p) else s.link p
  | [], _, _ => rfl
  | q :: rest, s, nodup => by
    obtain ⟨fresh, nodup⟩ := List.nodup_cons.1 nodup
    have torn := torn_teardownCore s q cause
    rw [List.foldl_cons, link_teardowns cause p rest _ nodup]
    by_cases same : p = q
    · subst same
      rw [if_neg fresh, if_pos List.mem_cons_self, State.link, torn.own]
      rfl
    · have port : PortKept (s.port p) ((s.teardownCore q cause).port p) := torn.others p same
      rw [State.link, port]
      simp only [List.mem_cons, same, false_or]
      rfl

/-! ### Step 2: RETIRING entries forced FREE -/

theorem entry_forceFree (s : State) (i j : ApIndex) : (s.forceFree i).entry j =
    if i = j then { freedEntry (s.entry j) with inFlight := 0 } else s.entry j := by
  rw [State.forceFree, (reports_raiseFreed ..).entry, State.entry_mapBanks, State.entry_modEntry]
  split
  · next same => rw [same]
  · rfl

theorem bank_forceFree (s : State) (i : ApIndex) (b : BankId) : (s.forceFree i).bank b = orphan i (s.bank b) := by
  rw [State.forceFree, (reports_raiseFreed ..).bank, State.bank_mapBanks]; rfl

theorem steady_forceFree (s : State) (i : ApIndex) : Steady s (s.forceFree i) :=
  ((steady_modEntry ..).trans (steady_mapBanks ..)).trans (reports_raiseFreed ..).steady

theorem calm_forceFree (s : State) (i : ApIndex) : Calm s (s.forceFree i) :=
  ((calm_modEntry ..).trans (calm_mapBanks ..)).trans (reports_raiseFreed ..).calm

theorem hold_forceFree (s : State) (i : ApIndex) (h : HoldId) : (s.forceFree i).hold h = s.hold h := by
  rw [State.forceFree, (reports_raiseFreed ..).hold]; rfl

theorem mgmt_forceFree (s : State) (i : ApIndex) : (s.forceFree i).mgmt = s.mgmt := by
  rw [State.forceFree, (reports_raiseFreed ..).mgmt]; rfl

theorem mem_orphan {i : ApIndex} {bank : Bank} {e : Entry} (mem : e ∈ (orphan i bank).queue) :
    ∃ old ∈ bank.queue, e.aperture = old.aperture ∧ e.port = old.port ∧ e.discarded = old.discarded ∧
      e.orphaned = (decide (old.aperture = i) || old.orphaned) := by
  obtain ⟨old, waited, rfl⟩ := List.mem_map.1 mem
  refine ⟨old, waited, ?_⟩
  split
  · next own => simp [own]
  · next other => simp [other]

theorem TornDown.forceFree {p : PortId} {s t : State} (h : TornDown p s t) (i : ApIndex) : TornDown p s (t.forceFree i) where
  fifo := by rw [(steady_forceFree t i).ports p]; exact h.fifo
  head := by rw [(steady_forceFree t i).ports p]; exact h.head
  tags tag := ((steady_forceFree t i).tagHolder p tag).trans (h.tags tag)
  egress := ((steady_forceFree t i).egress p).trans h.egress
  replay := by rw [(steady_forceFree t i).link p]; exact h.replay
  slots k := ((steady_forceFree t i).slot p k).trans (h.slots k)
  holds g hold found := h.holds g hold ((hold_forceFree t i g).symm.trans found)
  entries b entry mem own := by
    rw [bank_forceFree] at mem
    obtain ⟨old, waited, -, port, discarded, -⟩ := mem_orphan mem
    rw [discarded]
    exact h.entries b old waited (port ▸ own)
  commands := by rw [mgmt_forceFree]; exact h.commands
  config := ((steady_forceFree t i).config p).trans h.config

theorem entry_forceFrees (i : ApIndex) : ∀ (list : List ApIndex) (s : State), list.Nodup →
    (list.foldl State.forceFree s).entry i =
      if i ∈ list then { freedEntry (s.entry i) with inFlight := 0 } else s.entry i
  | [], _, _ => rfl
  | j :: rest, s, nodup => by
    obtain ⟨fresh, nodup⟩ := List.nodup_cons.1 nodup
    rw [List.foldl_cons, entry_forceFrees i rest _ nodup, entry_forceFree]
    by_cases same : j = i
    · subst same; simp [fresh]
    · simp [same, Ne.symm same]

theorem allOrphaned_forceFrees {i : ApIndex} : ∀ (list : List ApIndex) (s : State), i ∈ list ∨ AllOrphaned i s →
    AllOrphaned i (list.foldl State.forceFree s)
  | [], _, h => h.resolve_left List.not_mem_nil
  | j :: rest, s, h => by
    have forced : j = i ∨ AllOrphaned i s → AllOrphaned i (s.forceFree j) := by
      intro h b entry mem own
      rw [bank_forceFree] at mem
      obtain ⟨old, waited, aperture, -, -, orphaned⟩ := mem_orphan mem
      rw [orphaned, Bool.or_eq_true, decide_eq_true_eq, ← aperture, own]
      exact h.imp Eq.symm fun all => all b old waited (aperture ▸ own)
    refine allOrphaned_forceFrees rest _ ?_
    rcases h with mem | all
    · rcases List.mem_cons.1 mem with same | later
      · exact .inr (forced (.inl same.symm))
      · exact .inl later
    · exact .inr (forced (.inr all))

theorem mem_retiringIndices (s : State) (i : ApIndex) : i ∈ s.retiringIndices ↔ (s.entry i).state = .retiring := by
  simp [State.retiringIndices]

theorem nodup_retiringIndices (s : State) : s.retiringIndices.Nodup := (List.nodup_finRange 1024).filter _

/-! ### Step 4: the end of a drain -/

/-- The active profile once a drain has ended: the pending one of a PROFILE drain (R24, step 4). -/
def settledActive (s : State) : Profile :=
  match s.device with
  | .draining (.profile next) => next
  | _ => s.active

/-- A drain ends in READY with this profile, or there is none to end. -/
theorem settleDrain_cases (s : State) : s.settleDrain = { s with active := settledActive s }.enterReady ∨
    (s.settleDrain = s ∧ settledActive s = s.active) := by
  unfold State.settleDrain
  split
  · next next draining =>
    have active : settledActive s = next := by simp only [settledActive, draining]
    rw [active]
    exact .inl rfl
  · next draining =>
    have active : settledActive s = s.active := by simp only [settledActive, draining]
    rw [active]
    exact .inl rfl
  · next profile _ =>
    have active : settledActive s = s.active := by
      unfold settledActive
      split
      · next next draining => exact absurd draining (profile next)
      · rfl
    exact .inr ⟨rfl, active⟩

theorem trained_settleDrain (s : State) : Trained { s with active := settledActive s } s.settleDrain := by
  rcases settleDrain_cases s with ends | ⟨stays, same⟩
  · rw [ends]; exact trained_enterReady _
  · rw [stays, same]; exact .refl _

theorem calm_settleDrain (s : State) : Calm s s.settleDrain := by
  rcases settleDrain_cases s with ends | ⟨stays, -⟩
  · rw [ends]
    exact Calm.trans (b := { s with active := settledActive s }) ⟨rfl, rfl, rfl, rfl, rfl⟩ (calm_enterReady _)
  · rw [stays]; exact .refl _

/-- Where no enabled link is DOWN, the end of a drain trains none. -/
theorem link_settleDrain {s : State} {p : PortId} (h : ¬((s.port p).config.enabled = true ∧ (s.link p).state = .down)) :
    s.settleDrain.link p = s.link p := by
  rcases settleDrain_cases s with ends | ⟨stays, -⟩
  · rw [ends, link_enterReady]
    exact if_neg h
  · rw [stays]

end Sys2Proof.Machine
end

section
/-! The statement on DATAPATH_RESET (R24). -/

namespace Sys2Proof.Machine

/-- What a torn-down port is said of: the ports, the holds, the banks and the queue of the sequencer. -/
theorem TornDown.of_parts {p : PortId} {s t u : State} (h : TornDown p s t) (ports : u.ports = t.ports)
    (holds : u.holds = t.holds) (banks : u.banks = t.banks) (queue : u.mgmt.queue = t.mgmt.queue) : TornDown p s u := by
  have port : u.port p = t.port p := by unfold State.port; rw [ports]
  exact
    { fifo := by rw [port]; exact h.fifo
      head := by rw [port]; exact h.head
      tags := fun tag => by rw [State.tagHolder, port]; exact h.tags tag
      egress := by rw [port]; exact h.egress
      replay := by rw [State.link, port]; exact h.replay
      slots := fun k => by rw [State.slot, port]; exact h.slots k
      holds := fun g => by rw [State.hold, holds]; exact h.holds g
      entries := fun b => by rw [State.bank, banks]; exact h.entries b
      commands := by rw [queue]; exact h.commands
      config := by rw [port]; exact h.config }

/-- Step 1 of DATAPATH_RESET: every port torn down (R24). -/
def State.resetTorn (s : State) : State :=
  allPorts.foldl (fun (s : State) (p : PortId) => s.teardownCore p .datapathReset) s

/-- Steps 1 and 2: every RETIRING entry FREE (R24). -/
@[irreducible] def State.resetFreed (s : State) : State := s.resetTorn.retiringIndices.foldl State.forceFree s.resetTorn

/-- Steps 1 to 3: the ECC injection arm cleared (R24). -/
def State.resetArmed (s : State) : State := s.resetFreed.modMgmt fun m => { m with arm := none, consumed := false }

theorem doDatapathReset_eq (s : State) : s.doDatapathReset = (s.resetArmed.settleDrain, .ok []) := by
  unfold State.resetArmed State.resetFreed
  rfl

theorem tornDown_resetArmed (s : State) (p : PortId) : TornDown p s s.resetArmed := by
  have torn : TornDown p s s.resetTorn :=
    tornDown_teardowns .datapathReset s allPorts s (fun _ => rfl) (fun _ => .inr (mem_allPorts _)) p
  have freed : TornDown p s s.resetFreed := by
    unfold State.resetFreed
    exact List.foldlRecOn (motive := fun (t : State) => TornDown p s t) s.resetTorn.retiringIndices State.forceFree torn
      fun _ h _ _ => h.forceFree _
  exact freed.of_parts rfl rfl rfl rfl

theorem steady_resetArmed (s : State) : Steady s.resetTorn s.resetArmed := by
  have freed : Steady s.resetTorn s.resetFreed := by
    unfold State.resetFreed
    exact steady_foldl steady_forceFree s.resetTorn.retiringIndices s.resetTorn
  exact freed.trans (steady_modMgmt ..)

theorem calm_resetArmed (s : State) : Calm s s.resetArmed := by
  have torn : Calm s s.resetTorn := calm_foldl (fun _ _ => calm_teardownCore ..) allPorts s
  have freed : Calm s.resetTorn s.resetFreed := by
    unfold State.resetFreed
    exact calm_foldl calm_forceFree s.resetTorn.retiringIndices s.resetTorn
  exact (torn.trans freed).trans (calm_modMgmt ..)

theorem resetTorn_active (s : State) : s.resetTorn.active = s.active :=
  List.foldlRecOn (motive := fun (t : State) => t.active = s.active) _ _ rfl fun _ h _ _ =>
    (torn_teardownCore ..).active.trans h

theorem settledActive_resetArmed (s : State) : settledActive s.resetArmed = settledActive s := by
  have device : s.resetArmed.device = s.device :=
    (steady_resetArmed s).device.trans (teardowns_device .datapathReset allPorts s)
  have active : s.resetArmed.active = s.active := (steady_resetArmed s).active.trans (resetTorn_active s)
  simp only [settledActive, device, active]

theorem lowered_resetTorn (s : State) (i : ApIndex) : Lowered (s.entry i) (s.resetTorn.entry i) :=
  List.foldlRecOn (motive := fun (t : State) => Lowered (s.entry i) (t.entry i)) _ _ ⟨_, .inl ⟨_, rfl⟩⟩
    fun _ h _ _ => lowered_teardownCore h _ _

theorem entry_resetArmed (s : State) (i : ApIndex) : s.resetArmed.entry i =
    if (s.resetTorn.entry i).state = .retiring then { freedEntry (s.resetTorn.entry i) with inFlight := 0 }
    else s.resetTorn.entry i := by
  have freed := entry_forceFrees i s.resetTorn.retiringIndices s.resetTorn (nodup_retiringIndices _)
  have listed := mem_retiringIndices s.resetTorn i
  have armed : s.resetArmed.entry i = (s.resetTorn.retiringIndices.foldl State.forceFree s.resetTorn).entry i := by
    rw [State.resetArmed, State.entry_modMgmt]
    unfold State.resetFreed
    exact Eq.refl _
  rw [armed, freed]
  by_cases retiring : (s.resetTorn.entry i).state = .retiring
  · exact (if_pos (listed.2 retiring)).trans (if_pos retiring).symm
  · exact (if_neg (mt listed.1 retiring)).trans (if_neg retiring).symm

/-- A RETIRING entry ends FREE with the next generation and nothing in flight, freed in a teardown or by force (R24, R79). -/
theorem entry_resetArmed_of_retiring {s : State} {i : ApIndex} (h : (s.entry i).state = .retiring) :
    ∃ n, s.resetArmed.entry i = { freedEntry (s.entry i) with bindings := n, inFlight := 0 } := by
  obtain ⟨n, ⟨m, lowered⟩ | ⟨-, freed⟩⟩ := lowered_resetTorn s i
  · have retiring : (s.resetTorn.entry i).state = .retiring := by rw [lowered]; exact h
    refine ⟨n, ?_⟩
    rw [entry_resetArmed, if_pos retiring, lowered]
    rfl
  · have free : ¬(s.resetTorn.entry i).state = .retiring := by rw [freed]; simp [freedEntry]
    exact ⟨n, by rw [entry_resetArmed, if_neg free, freed]⟩

theorem entry_resetArmed_of_not_retiring {s : State} {i : ApIndex} (h : (s.entry i).state ≠ .retiring) :
    ∃ n m, s.resetArmed.entry i = { s.entry i with bindings := n, inFlight := m } := by
  obtain ⟨n, ⟨m, lowered⟩ | ⟨retiring, -⟩⟩ := lowered_resetTorn s i
  · have other : ¬(s.resetTorn.entry i).state = .retiring := by rw [lowered]; exact h
    exact ⟨n, m, by rw [entry_resetArmed, if_neg other, lowered]⟩
  · exact absurd retiring h

/-- The entries in service of a RETIRING aperture end orphaned (R21, R24). -/
theorem allOrphaned_resetArmed {s : State} {i : ApIndex} (retiring : (s.entry i).state = .retiring)
    (counted : InFlightTrue i s) : AllOrphaned i s.resetArmed := by
  have torn : Orphaning i s.resetTorn :=
    List.foldlRecOn (motive := fun (t : State) => Orphaning i t) _ _ (.inr ⟨retiring, counted⟩)
      fun _ h _ _ => orphaning_teardownCore h ..
  have freed : AllOrphaned i s.resetFreed := by
    unfold State.resetFreed
    refine allOrphaned_forceFrees s.resetTorn.retiringIndices s.resetTorn ?_
    rcases torn with orphaned | ⟨still, -⟩
    · exact .inr orphaned
    · exact .inl ((mem_retiringIndices ..).2 still)
  intro b
  rw [State.resetArmed, State.bank_modMgmt]
  exact freed b

/-- The link of a port after the teardown of DATAPATH_RESET: FAILED stays, an enabled one trains, another is DOWN (R24). -/
theorem link_resetArmed (s : State) (p : PortId) : (s.resetArmed.link p).state =
    if (s.link p).state = .failed then .failed else if (s.port p).config.enabled = true then .training else .down := by
  have link : s.resetArmed.link p = linkAfter .datapathReset (s.port p) := by
    rw [(steady_resetArmed s).link, State.resetTorn, link_teardowns .datapathReset p allPorts s (by decide),
      if_pos (mem_allPorts p)]
  rw [link]
  change (if (s.link p).state = .failed then s.link p else
    if (s.port p).config.enabled = true then beginFresh (s.link p) else stopLink .down (s.link p)).state = _
  split
  · next failed => exact failed
  · split <;> rfl

/-- Settles O51: the four steps of R24, the last of which trains no link that the teardowns did not train. -/
theorem datapathResetEffects : Obligations.DatapathResetEffects := by
  intro s command h
  have effect : s.popped.commandEffect command.source command.block .datapathReset =
    (s.popped.resetArmed.settleDrain, .ok []) := doDatapathReset_eq s.popped
  have device := doDatapathReset_device (s := s.popped) h.2.2
  rw [doDatapathReset_eq] at device
  have trained := trained_settleDrain s.popped.resetArmed
  have calm := (calm_resetArmed s.popped).trans (calm_settleDrain _)
  have torn : ∀ p, TornDown p s s.popped.resetArmed.settleDrain := fun p => by
    have down := ((tornDown_resetArmed s.popped p).of_parts
      (u := { s.popped.resetArmed with active := settledActive s.popped.resetArmed }) rfl rfl rfl rfl).trained trained
    exact { down with config := down.config }
  refine ⟨_, exec_of_executes rfl h effect, device, torn, fun g => ?_,
    fun i retiring => ?_, fun i retiring counted => ?_, fun i other => ?_, ?_, ?_, ?_, calm.staged, fun p => ?_, calm.memory,
    calm.health⟩
  · cases found : s.popped.resetArmed.settleDrain.hold g with
    | none => rfl
    | some hold => exact absurd rfl ((torn hold.owner).holds g hold found)
  · obtain ⟨n, entry⟩ := entry_resetArmed_of_retiring (s := s.popped) retiring
    have whole := (trained.entry i).trans entry
    rw [whole]
    rfl
  · intro b
    rw [trained.bank b]
    exact allOrphaned_resetArmed (s := s.popped) retiring counted b
  · obtain ⟨n, m, entry⟩ := entry_resetArmed_of_not_retiring (s := s.popped) other
    have whole := (trained.entry i).trans entry
    rw [whole]
    rfl
  · rw [trained.mgmt]; rfl
  · rw [trained.mgmt]; rfl
  · rw [trained.active]
    exact settledActive_resetArmed s.popped
  · have state := link_resetArmed s.popped p
    have config : (s.popped.resetArmed.port p).config = (s.port p).config := (tornDown_resetArmed s.popped p).config
    have settled : ¬((s.popped.resetArmed.port p).config.enabled = true ∧ (s.popped.resetArmed.link p).state = .down) := by
      rintro ⟨enabled, down⟩
      rw [config] at enabled
      rw [state, if_pos (show (s.popped.port p).config.enabled = true from enabled)] at down
      split at down <;> cases down
    rw [link_settleDrain settled]
    exact state

end Sys2Proof.Machine
end

section
/-! The completion of the service of an entry (R119): the service, the answer, and what follows it. -/

namespace Sys2Proof.Machine

/-! ### Answers -/

/-- Nothing of the device, the tables, the banks, the sequencer or the links differs, and no port is configured anew. -/
structure Fronted (s t : State) : Prop where
  device : t.device = s.device
  apertures : t.apertures = s.apertures
  banks : t.banks = s.banks
  mgmt : t.mgmt = s.mgmt
  links : ∀ p, t.link p = s.link p
  config : ∀ p, (t.port p).config = (s.port p).config

theorem Fronted.refl (s : State) : Fronted s s := ⟨rfl, rfl, rfl, rfl, fun _ => rfl, fun _ => rfl⟩

theorem Fronted.trans {a b c : State} (h : Fronted a b) (k : Fronted b c) : Fronted a c :=
  ⟨k.device.trans h.device, k.apertures.trans h.apertures, k.banks.trans h.banks, k.mgmt.trans h.mgmt,
    fun p => (k.links p).trans (h.links p), fun p => (k.config p).trans (h.config p)⟩

theorem Fronted.bank {s t : State} (h : Fronted s t) (b : BankId) : t.bank b = s.bank b := by
  unfold State.bank; rw [h.banks]

theorem Fronted.entry {s t : State} (h : Fronted s t) (i : ApIndex) : t.entry i = s.entry i := by
  unfold State.entry; rw [h.apertures]

theorem Reports.fronted {s t : State} (h : Reports s t) : Fronted s t :=
  ⟨h.device, h.apertures, h.banks, h.mgmt, h.link, h.steady.config⟩

theorem fronted_modPort (s : State) (p : PortId) (f : Port → Port) (link : ∀ port, (f port).link = port.link)
    (config : ∀ port, (f port).config = port.config) : Fronted s (s.modPort p f) := by
  have kept : ∀ q, ((s.modPort p f).port q).link = (s.port q).link ∧ ((s.modPort p f).port q).config = (s.port q).config := by
    intro q
    rw [State.port_modPort]
    split
    · next same => subst same; exact ⟨link _, config _⟩
    · exact ⟨rfl, rfl⟩
  exact ⟨rfl, rfl, rfl, rfl, fun q => (kept q).1, fun q => (kept q).2⟩

theorem fronted_nextPlace (s : State) : Fronted s s.nextPlace := ⟨rfl, rfl, rfl, rfl, fun _ => rfl, fun _ => rfl⟩

theorem fronted_setTag (s : State) (p : PortId) (tag : Tag) (holder : Option Holder) : Fronted s (s.setTag p tag holder) :=
  fronted_modPort _ _ _ (by intro; rfl) (by intro; rfl)

theorem fronted_respond (s : State) (p : PortId) (r : Response) : Fronted s (s.respond p r) := by
  have freed := fronted_setTag s p r.tag none
  unfold State.respond
  dsimp only
  split
  · exact (freed.trans (fronted_modPort _ _ _ (by intro; rfl) (by intro; rfl))).trans (fronted_nextPlace _)
  · exact (freed.trans (reports_offer ..).fronted).trans (reports_raise ..).fronted

theorem fronted_fenceTest (s : State) (p : PortId) : Fronted s (s.fenceTest p) := by
  unfold State.fenceTest
  split
  · exact (fronted_modPort _ _ _ (by intro; rfl) (by intro; rfl)).trans (fronted_respond ..)
  · exact .refl s

/-! ### The events of an answer -/

theorem eventLoad_congr {s t : State} {q : PortId} (events : (t.port q).events = (s.port q).events)
    (faults : t.faults = s.faults) : t.eventLoad q = s.eventLoad q := by unfold State.eventLoad; rw [events, faults]

theorem eventLoad_modPort (s : State) (p q : PortId) (f : Port → Port) (h : ∀ port, (f port).events = port.events) :
    (s.modPort p f).eventLoad q = s.eventLoad q := eventLoad_congr (events_modPort s p q f h) rfl

theorem eventLoad_setTag (s : State) (p : PortId) (tag : Tag) (holder : Option Holder) (q : PortId) :
    (s.setTag p tag holder).eventLoad q = s.eventLoad q := eventLoad_modPort _ _ _ _ (by intro; rfl)

/-- An answer brings at most the one event that its own loss raises (R48). -/
theorem eventLoad_respond (s : State) (p : PortId) (r : Response) (q : PortId) :
    (s.respond p r).eventLoad q ≤ s.eventLoad q + 1 := by
  have freed := eventLoad_setTag s p r.tag none q
  unfold State.respond
  dsimp only
  split
  · have placed : ∀ f : Port → Port, (∀ port, (f port).events = port.events) →
        (((s.setTag p r.tag none).modPort p f).nextPlace).eventLoad q = s.eventLoad q :=
      fun f h => (eventLoad_modPort _ p q f h).trans freed
    rw [placed _ (by intro; rfl)]
    exact Nat.le_add_right ..
  · have lost := eventLoad_offer (s.setTag p r.tag none) { code := .responseLost, port := some p, tag := some r.tag } q
    have raised := eventLoad_raise ((s.setTag p r.tag none).offer
      { code := .responseLost, port := some p, tag := some r.tag }) p q (.protocolError r.tag .responseLost)
    split at raised <;> omega

theorem eventLoad_fenceTest (s : State) (p q : PortId) : (s.fenceTest p).eventLoad q ≤ s.eventLoad q + 1 := by
  unfold State.fenceTest
  split
  · refine (eventLoad_respond ..).trans (Nat.le_of_eq ?_)
    rw [State.popHead, eventLoad_modPort _ _ _ _ (by intro; rfl)]
  · exact Nat.le_add_right ..

/-! ### What a service leaves -/

/-- A service concerns memory, unit health, the corrected counts and the injection arm alone (R114 to R118). -/
structure ServeKept (s t : State) : Prop extends SameView s t where
  device : t.device = s.device
  active : t.active = s.active
  apertures : t.apertures = s.apertures

theorem ServeKept.refl (s : State) : ServeKept s s := ⟨⟨rfl, rfl, rfl, rfl⟩, rfl, rfl, rfl⟩

theorem ServeKept.trans {a b c : State} (h : ServeKept a b) (k : ServeKept b c) : ServeKept a c :=
  ⟨⟨k.ports.trans h.ports, k.faults.trans h.faults, k.tickCount.trans h.tickCount, k.order.trans h.order⟩,
    k.device.trans h.device, k.active.trans h.active, k.apertures.trans h.apertures⟩

theorem serveKept_ite {c : Prop} [Decidable c] {s a b : State} (h : ServeKept s a) (k : ServeKept s b) :
    ServeKept s (if c then a else b) := by
  split
  · exact h
  · exact k

theorem serveKept_countCorrected (s : State) (b : BankId) : ServeKept s (s.countCorrected b) :=
  ⟨⟨rfl, rfl, rfl, rfl⟩, rfl, rfl, rfl⟩

theorem serveKept_setHealth (s : State) (unit : UnitAddr) (health : Health) : ServeKept s (s.setHealth unit health) :=
  ⟨⟨rfl, rfl, rfl, rfl⟩, rfl, rfl, rfl⟩

theorem serveKept_writeUnit (s : State) (unit : UnitAddr) (data : List Byte) : ServeKept s (s.writeUnit unit data) := by
  unfold State.writeUnit
  split
  · split <;> exact ⟨⟨rfl, rfl, rfl, rfl⟩, rfl, rfl, rfl⟩
  · exact ⟨⟨rfl, rfl, rfl, rfl⟩, rfl, rfl, rfl⟩

theorem serveKept_writeUnits : ∀ (units : List UnitAddr) (data : List Byte) (s : State),
    ServeKept s (s.writeUnits units data)
  | [], _, s => .refl s
  | unit :: rest, data, _ => (serveKept_writeUnit _ unit _).trans (serveKept_writeUnits rest (data.drop 16) _)

theorem serveKept_readUnits (b : BankId) (entry : Entry) (scrub log : Bool) : ∀ (units : List UnitAddr) (s : State),
    ServeKept s (s.readUnits b entry scrub log units).1
  | [], s => .refl s
  | unit :: rest, s => by
    unfold State.readUnits
    split
    · exact serveKept_readUnits b entry scrub log rest s
    · exact (serveKept_ite ((serveKept_countCorrected s b).trans (serveKept_setHealth ..)) (serveKept_countCorrected s b)).trans
        (serveKept_readUnits b entry scrub log rest _)
    · exact serveKept_readUnits b entry scrub log rest s

theorem serveKept_serve (s : State) (b : BankId) (entry : Entry) (scrub log : Bool) :
    ServeKept s (s.serve b entry scrub log).state := by
  have modify : ∀ change, ServeKept s (s.serveModify b entry log change).state := by
    intro change
    unfold State.serveModify
    dsimp only
    split
    · exact serveKept_writeUnit ..
    · exact (serveKept_countCorrected s b).trans (serveKept_writeUnit ..)
    · exact .refl s
  unfold State.serve
  split
  · have read := serveKept_readUnits b entry scrub log (unitsFrom entry.unit entry.length) s
    unfold State.serveRead
    dsimp only
    split
    · exact read
    · exact read
  · exact serveKept_writeUnits ..
  · exact modify _
  · exact modify _

/-! ### The completion in its steps -/

/-- The records of a service offered and its response given (R119, steps 2 and 3). -/
def Served.reported (served : Served) (entry : Entry) : State :=
  (served.state.offerAll served.offers).respondServed entry served

/-- The bank left and a waiting FENCE tested (R119, steps 4 and 5). -/
def State.fenced (s : State) (b : BankId) (entry : Entry) : State :=
  (s.modBank b (leaveQueue entry.position)).fenceTest entry.port

/-- The in-flight count settled, unless the entry is orphaned (R21, R119, step 6). -/
def State.lowered (s : State) (entry : Entry) : State := if entry.orphaned then s else s.settleInFlight entry.aperture

theorem completeEntry_eq (s : State) (b : BankId) (entry : Entry) (scrub log : Bool) : s.completeEntry b entry scrub log =
    ((((s.serve b entry scrub log).reported entry).fenced b entry).lowered entry).promptAttempts := rfl

/-- A completion row acts where its bank serves an entry of its kind (R119). -/
theorem exec_completionOf {s : State} {b : BankId} {entry : Entry} {scrub log : Bool} (settled : s.Settled)
    (served : s.served b = some (entry, scrub, log)) :
    exec (completionOf entry.op b) s = .next (s.completeEntry b entry scrub log) := by
  have complete : s.complete b (serviceKind entry.op) = s.completeEntry b entry scrub log := by
    simp only [State.complete, served, if_true]
  rw [← complete]
  cases entry.op <;>
    simp only [completionOf, exec, execReadService, execWriteService, execWriteMaskedService, execAtomicService,
      settle_of_settled settled, serviceKind]

theorem fronted_respondServed (s : State) (entry : Entry) (served : Served) : Fronted s (s.respondServed entry served) := by
  unfold State.respondServed
  split
  · exact .refl s
  · exact fronted_respond ..

/-- What the completion leaves up to the in-flight count: the bank has left the entry. -/
theorem bank_fenced (s : State) (b : BankId) (entry : Entry) (c : BankId) :
    (s.fenced b entry).bank c = if b = c then leaveQueue entry.position (s.bank b) else s.bank c := by
  rw [State.fenced, (fronted_fenceTest ..).bank, State.bank_modBank]

end Sys2Proof.Machine
end

section
/-! The last completion of an aperture (R79, R82, R119). -/

namespace Sys2Proof.Machine

/-- What a completion leaves before the in-flight count is settled: the tables, the links and the device state as they were, and
at most two further events for a port. -/
theorem fenced_of_served (s : State) (b : BankId) (entry : Entry) (scrub log : Bool) :
    let t := ((s.serve b entry scrub log).reported entry).fenced b entry
    t.device = s.device ∧ t.apertures = s.apertures ∧ (∀ p, t.link p = s.link p) ∧
      (∀ p, (t.port p).config = (s.port p).config) ∧ ∀ p, t.eventLoad p ≤ s.eventLoad p + 2 := by
  have kept := serveKept_serve s b entry scrub log
  have offered := reports_offerAll (s.serve b entry scrub log).state (s.serve b entry scrub log).offers
  have answered := fronted_respondServed ((s.serve b entry scrub log).state.offerAll (s.serve b entry scrub log).offers)
    entry (s.serve b entry scrub log)
  have front := offered.fronted.trans answered
  have load : ∀ p, ((s.serve b entry scrub log).reported entry).eventLoad p ≤ s.eventLoad p + 1 := fun p => by
    have offers := eventLoad_offerAll (s.serve b entry scrub log).offers (s.serve b entry scrub log).state p
    have same : (s.serve b entry scrub log).state.eventLoad p = s.eventLoad p :=
      eventLoad_congr (by rw [kept.port]) kept.faults
    have response : ((s.serve b entry scrub log).reported entry).eventLoad p ≤
        ((s.serve b entry scrub log).state.offerAll (s.serve b entry scrub log).offers).eventLoad p + 1 := by
      unfold Served.reported State.respondServed
      split
      · exact Nat.le_add_right ..
      · exact eventLoad_respond ..
    omega
  have tested := fronted_fenceTest (((s.serve b entry scrub log).reported entry).modBank b (leaveQueue entry.position))
    entry.port
  refine ⟨tested.device.trans (front.device.trans kept.device), tested.apertures.trans (front.apertures.trans kept.apertures),
    fun p => (tested.links p).trans ((front.links p).trans (kept.link p)),
    fun p => (tested.config p).trans ((front.config p).trans (by rw [kept.port])), fun p => ?_⟩
  have one := load p
  have two := eventLoad_fenceTest (((s.serve b entry scrub log).reported entry).modBank b (leaveQueue entry.position))
    entry.port p
  have same : (((s.serve b entry scrub log).reported entry).modBank b (leaveQueue entry.position)).eventLoad p =
    ((s.serve b entry scrub log).reported entry).eventLoad p := rfl
  change (State.fenceTest _ _).eventLoad p ≤ _
  omega

/-! ### Settling the in-flight count -/

/-- Settling lowers the count and, where it reaches 0, looks the entry up (R82). -/
theorem settleInFlight_eq (s : State) (i : ApIndex) : s.settleInFlight i =
    if (s.entry i).inFlight - 1 = 0 then
      if (s.entry i).parityBad then (s.dropInFlight i).parityFail i
      else if (s.entry i).state = .retiring then (s.dropInFlight i).freeEntry i
      else s.dropInFlight i
    else s.dropInFlight i := by
  have dropped : (s.dropInFlight i).entry i = { s.entry i with inFlight := (s.entry i).inFlight - 1 } :=
    State.entry_modEntry_same ..
  unfold State.settleInFlight State.lookupDrained
  dsimp only
  rw [dropped]

theorem entry_settleInFlight_other (s : State) {i j : ApIndex} (h : j ≠ i) : (s.settleInFlight i).entry j = s.entry j := by
  have dropped : (s.dropInFlight i).entry j = s.entry j := by
    rw [State.dropInFlight, State.entry_modEntry, if_neg h.symm]
  have freed : ((s.dropInFlight i).freeEntry i).entry j = s.entry j := by
    rw [State.freeEntry, (reports_raiseFreed ..).entry, State.entry_modEntry, if_neg h.symm, dropped]
  rw [settleInFlight_eq]
  split
  · split
    · rw [(trained_parityFail ..).entry, dropped]
    · split
      · exact freed
      · exact dropped
  · exact dropped

/-- The APERTURE_FREED event of a subscribed port whose link is up finds a place, where at most seven events are queued or still
to come (R79, R161). -/
theorem mem_raiseFreed {s : State} {ports : BitVec 4} {i : ApIndex} {p : PortId} (listed : ports.getLsbD p.val = true)
    (subscribed : (s.port p).config.maskFreed = true) (up : (s.link p).state ∉ [LinkState.down, .failed])
    (room : s.eventLoad p ≤ 7) : .apertureFreed i ∈ (s.raiseFreed ports i).eventsOf p := by
  have fold : ∀ (list : List PortId) (t : State), p ∈ list → Steady s t → t.eventLoad p ≤ 7 →
      .apertureFreed i ∈ (list.foldl (fun (t : State) (q : PortId) =>
        if ports.getLsbD q.val && (t.port q).config.maskFreed then t.raise q (.apertureFreed i) else t) t).eventsOf p := by
    intro list
    induction list with
    | nil => exact fun _ mem => absurd mem List.not_mem_nil
    | cons q rest ih =>
      intro t mem steady room
      rw [List.foldl_cons]
      by_cases same : q = p
      · subst same
        have met : (ports.getLsbD q.val && (t.port q).config.maskFreed) = true := by
          rw [listed, steady.config, subscribed]; rfl
        have few : (t.port q).events.length < 8 := by unfold State.eventLoad at room; split at room <;> omega
        have told := (told_raise few (.apertureFreed i)).queued q
        rw [steady.link, if_neg up, if_pos rfl] at told
        have placed : Event.apertureFreed i ∈ (t.raise q (.apertureFreed i)).eventsOf q := by rw [told]; simp
        rw [if_pos met]
        exact ((grows_foldl (fun u r => grows_ite (grows_raise ..) (.refl u)) rest _).events q).subset placed
      · refine ih _ ((List.mem_cons.1 mem).resolve_left fun e => same e.symm)
          (steady.trans (steady_ite (steady_raise ..) (.refl t))) ?_
        split
        · have raised := eventLoad_raise t q p (.apertureFreed i)
          rw [if_neg fun e : p = q => same e.symm] at raised
          omega
        · exact room
  exact fold allPorts s (mem_allPorts p) (.refl s) room

/-! ### The completion of an entry -/

theorem eventsOf_promptAttempts (s : State) (p : PortId) : s.promptAttempts.eventsOf p = s.eventsOf p := by
  rw [State.eventsOf, State.port_promptAttempts, promptPort_eq]

theorem entry_freeEntry (s : State) (i : ApIndex) : (s.freeEntry i).entry i = freedEntry (s.entry i) := by
  rw [State.freeEntry, (reports_raiseFreed ..).entry, State.entry_modEntry_same]

/-- The entry with its in-flight count lowered by one. -/
def countedEntry (entry : ApEntry) : ApEntry := { entry with inFlight := entry.inFlight - 1 }

theorem entry_dropInFlight_same (s : State) (i : ApIndex) : (s.dropInFlight i).entry i = countedEntry (s.entry i) :=
  State.entry_modEntry_same ..

/-- A lookup at the last completion that does not fail frees a RETIRING entry, with APERTURE_FREED, and leaves another (R79). -/
theorem settleInFlight_of_good {s : State} {i : ApIndex} (last : (s.entry i).inFlight = 1)
    (good : (s.entry i).parityBad = false) :
    s.settleInFlight i = if (s.entry i).state = .retiring then (s.dropInFlight i).freeEntry i else s.dropInFlight i := by
  rw [settleInFlight_eq, last, good]
  rfl

theorem settleInFlight_of_bad {s : State} {i : ApIndex} (last : (s.entry i).inFlight = 1)
    (bad : (s.entry i).parityBad = true) : s.settleInFlight i = (s.dropInFlight i).parityFail i := by
  rw [settleInFlight_eq, last, bad]
  rfl

theorem settleInFlight_of_more {s : State} {i : ApIndex} (more : 2 ≤ (s.entry i).inFlight) :
    s.settleInFlight i = s.dropInFlight i := by
  rw [settleInFlight_eq, if_neg (by omega)]

/-- The last completion of a RETIRING aperture raises APERTURE_FREED for a subscribed port of its mask (R79). -/
theorem mem_freeEntry {s : State} {i : ApIndex} {p : PortId} (listed : (s.entry i).portMask.getLsbD p.val = true)
    (subscribed : (s.port p).config.maskFreed = true) (up : (s.link p).state ∉ [LinkState.down, .failed])
    (room : s.eventLoad p ≤ 7) : .apertureFreed i ∈ ((s.dropInFlight i).freeEntry i).eventsOf p := by
  have mask : ((s.dropInFlight i).entry i).portMask = (s.entry i).portMask := by rw [entry_dropInFlight_same]; rfl
  rw [State.freeEntry, mask]
  exact mem_raiseFreed (s := (s.dropInFlight i).modEntry i freedEntry) listed subscribed up room

/-- The second part of O46: what the completion of an entry does to its aperture. -/
theorem completion_settles (s : State) (b : BankId) (entry : Entry) (scrub log : Bool) (settled : s.Settled)
    (served : s.served b = some (entry, scrub, log)) :
    let i := entry.aperture
    ∃ t, exec (completionOf entry.op b) s = .next t ∧ (∀ j, j ≠ i → t.entry j = s.entry j) ∧
      (entry.orphaned = true → t.entry i = s.entry i ∧ t.device = s.device) ∧
      (entry.orphaned = false → 2 ≤ (s.entry i).inFlight → t.entry i = countedEntry (s.entry i) ∧ t.device = s.device) ∧
      (entry.orphaned = false → (s.entry i).inFlight = 1 → (s.entry i).parityBad = true →
        t.entry i = countedEntry (s.entry i) ∧ t.device = .halted) ∧
      (entry.orphaned = false → (s.entry i).inFlight = 1 → (s.entry i).parityBad = false →
        t.device = s.device ∧
        (∀ p, (s.entry i).state = .retiring → (s.entry i).portMask.getLsbD p.val = true →
          (s.port p).config.maskFreed = true → (s.link p).state ∉ [LinkState.down, .failed] → (s.port p).events.length ≤ 4 →
          .apertureFreed i ∈ t.eventsOf p) ∧
        t.entry i =
          if (s.entry i).state = .retiring then freedEntry (countedEntry (s.entry i)) else countedEntry (s.entry i)) := by
  obtain ⟨device, apertures, links, config, load⟩ := fenced_of_served s b entry scrub log
  obtain ⟨f, same⟩ : ∃ f, f = ((s.serve b entry scrub log).reported entry).fenced b entry := ⟨_, rfl⟩
  rw [← same] at device apertures links config load
  have table : ∀ j, f.entry j = s.entry j := fun j => by unfold State.entry; rw [apertures]
  have run := exec_completionOf settled served
  rw [completeEntry_eq, ← same] at run
  have kept : entry.orphaned = false → f.lowered entry = f.settleInFlight entry.aperture := fun h => by
    rw [State.lowered, h]; rfl
  refine ⟨_, run, fun j other => ?_, fun orphaned => ?_, fun own more => ?_, fun own last bad => ?_, fun own last good => ?_⟩
  · rw [State.entry_promptAttempts, State.lowered, ← table j]
    split
    · rfl
    · exact entry_settleInFlight_other f other
  · rw [State.entry_promptAttempts, State.lowered, orphaned]
    exact ⟨table _, device⟩
  · rw [State.entry_promptAttempts, kept own, settleInFlight_of_more (by rw [table]; exact more), entry_dropInFlight_same,
      table]
    exact ⟨rfl, device⟩
  · rw [State.entry_promptAttempts, kept own,
      settleInFlight_of_bad (by rw [table]; exact last) (by rw [table]; exact bad), (trained_parityFail ..).entry,
      entry_dropInFlight_same, table]
    exact ⟨rfl, parityFail_device ..⟩
  · have ends := settleInFlight_of_good (s := f) (by rw [table]; exact last) (by rw [table]; exact good)
    rw [table] at ends
    rw [kept own, ends]
    refine ⟨?_, fun p retiring listed subscribed up few => ?_, ?_⟩
    · have settledDevice : ((f.dropInFlight entry.aperture).freeEntry entry.aperture).device = f.device :=
        (steady_freeEntry ..).device
      split
      · exact settledDevice.trans device
      · exact device
    · have room : f.eventLoad p ≤ 7 := by
        have grown := load p
        have before : s.eventLoad p ≤ 5 := by unfold State.eventLoad; split <;> omega
        omega
      rw [eventsOf_promptAttempts, if_pos retiring]
      exact mem_freeEntry (by rw [table]; exact listed) (by rw [config]; exact subscribed) (by rw [links]; exact up) room
    · rw [State.entry_promptAttempts, apply_ite (fun t : State => t.entry entry.aperture), entry_freeEntry,
        entry_dropInFlight_same, table]

end Sys2Proof.Machine
end

section
/-! APERTURE_RETIRE (R78). -/

namespace Sys2Proof.Machine

theorem indexArgument_of_eq {block : List Byte} {i : ApIndex} (h : i.val = numberAt block 4 2) (nonzero : i ≠ 0) :
    indexArgument block = some i := by
  have positive : i.val ≠ 0 := fun e => nonzero (Fin.ext e)
  have small := i.isLt
  rw [indexArgument]
  rw [if_pos (by omega)]
  refine congrArg some (Fin.ext ?_)
  rw [← h]
  exact Nat.mod_eq_of_lt small

/-! ### The walk -/

/-- The slot at a place of the walk becomes STALE where it is BOUND to the index (R78, step 2). -/
def State.staleSlot (s : State) (i : ApIndex) (place : PortId × SlotId) : State :=
  if boundTo (fun copy => decide (handleIndex copy.handle = i)) (s.slot place.1 place.2) then
    s.modPort place.1 fun port => { port with slots := port.slots.set place.2 (staled port.slots[place.2]) }
  else s

/-- A slot after the walk has passed it. -/
def retiredSlot (i : ApIndex) (slot : Slot) : Slot :=
  if boundTo (fun copy => decide (handleIndex copy.handle = i)) slot then staled slot else slot

theorem retiredSlot_idem (i : ApIndex) (slot : Slot) : retiredSlot i (retiredSlot i slot) = retiredSlot i slot := by
  unfold retiredSlot
  cases slot with
  | bound copy => by_cases own : handleIndex copy.handle = i <;> simp [boundTo, staled, own]
  | empty => rfl
  | nullBound => rfl
  | stale copy => rfl

/-- A walk of an entry whose parity is good goes through (R78, R85). -/
theorem retireWalk_of_good (i : ApIndex) : ∀ (list : List (PortId × SlotId)) (s : State), (s.entry i).parityBad = false →
    s.retireWalk i list = (list.foldl (fun (t : State) place => t.staleSlot i place) s, true)
  | [], _, _ => rfl
  | (p, k) :: rest, s, good => by
    rw [State.retireWalk, List.foldl_cons, State.staleSlot, good]
    dsimp only
    split
    · exact retireWalk_of_good i rest (s.modPort p fun port => { port with slots := port.slots.set k (staled port.slots[k]) })
        good
    · exact retireWalk_of_good i rest s good

/-- Nothing but slots differs. -/
structure SlotsMoved (s t : State) : Prop where
  ports : ∀ p, { t.port p with slots := (s.port p).slots } = s.port p
  rest : { t with ports := s.ports } = s

theorem SlotsMoved.device {s t : State} (h : SlotsMoved s t) : t.device = s.device := (congrArg State.device h.rest :)
theorem SlotsMoved.apertures {s t : State} (h : SlotsMoved s t) : t.apertures = s.apertures :=
  (congrArg State.apertures h.rest :)
theorem SlotsMoved.holds {s t : State} (h : SlotsMoved s t) : t.holds = s.holds := (congrArg State.holds h.rest :)
theorem SlotsMoved.faults {s t : State} (h : SlotsMoved s t) : t.faults = s.faults := (congrArg State.faults h.rest :)

theorem SlotsMoved.calm {s t : State} (h : SlotsMoved s t) : Calm s t :=
  ⟨(congrArg State.memory h.rest :), (congrArg State.health h.rest :), (congrArg State.tickCount h.rest :),
    (congrArg State.staged h.rest :), (congrArg State.pending h.rest :)⟩

theorem SlotsMoved.refl (s : State) : SlotsMoved s s := ⟨fun _ => rfl, rfl⟩

theorem SlotsMoved.trans {a b c : State} (h : SlotsMoved a b) (k : SlotsMoved b c) : SlotsMoved a c :=
  ⟨fun p => (congrArg (fun port : Port => { port with slots := (a.port p).slots }) (k.ports p)).trans (h.ports p),
    (congrArg (fun t : State => { t with ports := a.ports }) k.rest).trans h.rest⟩

theorem slotsMoved_modPort (s : State) (p : PortId) (f : Port → Vector Slot 8) :
    SlotsMoved s (s.modPort p fun port => { port with slots := f port }) := by
  refine ⟨fun q => ?_, rfl⟩
  rw [State.port_modPort]
  split
  · next same => subst same; rfl
  · rfl

theorem slotsMoved_staleSlot (s : State) (i : ApIndex) (place : PortId × SlotId) : SlotsMoved s (s.staleSlot i place) := by
  unfold State.staleSlot
  split
  · exact slotsMoved_modPort ..
  · exact .refl s

theorem slot_staleSlot (s : State) (i : ApIndex) (place : PortId × SlotId) (p : PortId) (k : SlotId) :
    (s.staleSlot i place).slot p k = if place = (p, k) then retiredSlot i (s.slot p k) else s.slot p k := by
  obtain ⟨q, j⟩ := place
  unfold State.staleSlot retiredSlot
  by_cases bound : boundTo (fun copy => decide (handleIndex copy.handle = i)) (s.slot q j) = true
  · rw [if_pos bound, State.slot, State.port_modPort]
    by_cases port : q = p
    · subst port
      rw [if_pos rfl]
      by_cases slot : j = k
      · subst slot
        rw [if_pos rfl, if_pos bound]
        simp [State.slot]
      · simp [slot, State.slot, Fin.val_ne_of_ne slot]
    · simp [port, State.slot]
  · rw [if_neg bound]
    split
    · next same => cases same; rw [if_neg bound]
    · rfl

theorem slot_walk (i : ApIndex) (p : PortId) (k : SlotId) : ∀ (list : List (PortId × SlotId)) (s : State),
    (list.foldl (fun (t : State) place => t.staleSlot i place) s).slot p k =
      if (p, k) ∈ list then retiredSlot i (s.slot p k) else s.slot p k
  | [], _ => rfl
  | place :: rest, s => by
    rw [List.foldl_cons, slot_walk i p k rest, slot_staleSlot]
    by_cases here : place = (p, k)
    · subst here
      simp [retiredSlot_idem]
    · simp [here, Ne.symm here]

theorem mem_walkOrder (p : PortId) (k : SlotId) : (p, k) ∈ walkOrder := by
  refine List.mem_flatMap.2 ⟨p, mem_allPorts p, List.mem_map.2 ⟨k, ?_, rfl⟩⟩
  fin_cases k <;> simp [allSlots]

/-- The state after the walk: the entry RETIRING, its BOUND slots STALE (R78, steps 1 and 2). -/
@[irreducible] def State.retireWalked (s : State) (i : ApIndex) : State :=
  walkOrder.foldl (fun (t : State) place => t.staleSlot i place)
    (s.modEntry i fun entry => { entry with state := .retiring })

theorem slotsMoved_retireWalked (s : State) (i : ApIndex) :
    SlotsMoved (s.modEntry i fun entry => { entry with state := .retiring }) (s.retireWalked i) := by
  unfold State.retireWalked
  exact List.foldlRecOn
    (motive := fun (t : State) => SlotsMoved (s.modEntry i fun entry => { entry with state := .retiring }) t)
    walkOrder _ (.refl _) fun _ h _ _ => h.trans (slotsMoved_staleSlot ..)

theorem slot_retireWalked (s : State) (i : ApIndex) (p : PortId) (k : SlotId) :
    (s.retireWalked i).slot p k = retiredSlot i (s.slot p k) := by
  unfold State.retireWalked
  exact (slot_walk i p k walkOrder _).trans (if_pos (mem_walkOrder p k))

theorem entry_retireWalked (s : State) (i j : ApIndex) : (s.retireWalked i).entry j =
    if i = j then { s.entry j with state := .retiring } else s.entry j := by
  have moved : (s.retireWalked i).entry j = (s.modEntry i fun entry => { entry with state := .retiring }).entry j := by
    unfold State.entry; rw [(slotsMoved_retireWalked s i).apertures]
  rw [moved]
  rw [State.entry_modEntry]
  split
  · next same => rw [same]
  · rfl

theorem told_of_slotsMoved {s t : State} {i : ApIndex} {f : ApEntry → ApEntry} (h : SlotsMoved (s.modEntry i f) t) :
    Told s t fun _ => [] := by
  refine ⟨h.faults, fun p => (congrArg Port.link (h.ports p) :), fun p => ?_⟩
  have events : (t.port p).events = (s.port p).events := (congrArg Port.events (h.ports p) :)
  simp [State.eventsOf, events]

/-! ### Steps 3 to 5 -/

/-- A hold of the aperture that is being retired (R78, step 4). -/
def retiredHold (s : State) (i : ApIndex) (hold : Hold) : Bool :=
  decide (hold.aperture = i ∧ hold.generation = (s.entry i).generation)

/-- The state after steps 1 to 4 of APERTURE_RETIRE. -/
def State.retireBroken (s : State) (i : ApIndex) : State :=
  ((s.retireWalked i).raiseStaled s fun _ copy => decide (handleIndex copy.handle = i)).endHolds (.broken .retire)
    (retiredHold s i)

/-- The state after APERTURE_RETIRE (R78). -/
def State.retired (s : State) (i : ApIndex) : State := (s.retireWalked i).finishRetire s i

theorem retired_eq (s : State) (i : ApIndex) : s.retired i =
    if ((s.retireBroken i).entry i).inFlight = 0 then (s.retireBroken i).freeEntry i else s.retireBroken i := rfl

theorem reports_raiseStaled (s before : State) (which : PortId → SlotCopy → Bool) :
    Reports s (s.raiseStaled before which) := by
  refine reports_foldl (fun t p => ?_) _ _
  unfold State.raiseStale
  split
  · exact .refl _
  · exact reports_raise ..

theorem steady_retireBroken (s : State) (i : ApIndex) : Steady (s.retireWalked i) (s.retireBroken i) :=
  (steady_raiseStaled ..).trans (steady_endHolds ..)

theorem entry_retireBroken (s : State) (i j : ApIndex) : (s.retireBroken i).entry j =
    if i = j then { s.entry j with state := .retiring } else s.entry j := by
  rw [State.retireBroken, (tables_endHolds ..).entry, (reports_raiseStaled ..).entry, entry_retireWalked]

theorem steady_retired (s : State) (i : ApIndex) : Steady (s.retireWalked i) (s.retired i) := by
  rw [retired_eq]
  exact steady_ite ((steady_retireBroken s i).trans (steady_freeEntry ..)) (steady_retireBroken s i)

/-- The entry after APERTURE_RETIRE: FREE where nothing is in flight, and else RETIRING (R78, R79). -/
theorem entry_retired (s : State) (i : ApIndex) : (s.retired i).entry i =
    if (s.entry i).inFlight = 0 then freedEntry (s.entry i) else { s.entry i with state := .retiring } := by
  have broken := entry_retireBroken s i i
  rw [if_pos rfl] at broken
  rw [retired_eq, broken, apply_ite (fun t : State => t.entry i), entry_freeEntry, broken]
  rfl

theorem entry_retired_other (s : State) {i j : ApIndex} (other : j ≠ i) : (s.retired i).entry j = s.entry j := by
  have broken := entry_retireBroken s i j
  rw [if_neg other.symm] at broken
  have freed : ((s.retireBroken i).freeEntry i).entry j = (s.retireBroken i).entry j := by
    rw [State.freeEntry, (reports_raiseFreed ..).entry, State.entry_modEntry, if_neg other.symm]
  rw [retired_eq]
  split
  · rw [freed, broken]
  · exact broken

theorem port_modEntry (s : State) (i : ApIndex) (f : ApEntry → ApEntry) (p : PortId) : (s.modEntry i f).port p = s.port p :=
  rfl

theorem told_modEntry (s : State) (i : ApIndex) (f : ApEntry → ApEntry) : Told s (s.modEntry i f) fun _ => [] :=
  told_of_ports rfl rfl

theorem hold_modEntry (s : State) (i : ApIndex) (f : ApEntry → ApEntry) (h : HoldId) :
    (s.modEntry i f).hold h = s.hold h := rfl

theorem hold_retired (s : State) (i : ApIndex) (h : HoldId) :
    (s.retired i).hold h = if (s.hold h).any (retiredHold s i) then none else s.hold h := by
  have walked : (s.retireWalked i).hold h = s.hold h := by
    unfold State.hold; rw [(slotsMoved_retireWalked s i).holds]; rfl
  have broken : (s.retireBroken i).hold h = if (s.hold h).any (retiredHold s i) then none else s.hold h := by
    rw [State.retireBroken, hold_endHolds, (reports_raiseStaled ..).hold, walked]
  have freed : ((s.retireBroken i).freeEntry i).hold h = (s.retireBroken i).hold h := by
    rw [State.freeEntry, (reports_raiseFreed ..).hold, hold_modEntry]
  rw [retired_eq]
  split
  · rw [freed, broken]
  · exact broken

theorem calm_retired (s : State) (i : ApIndex) : Calm s (s.retired i) := by
  have walked : Calm s (s.retireWalked i) := (calm_modEntry ..).trans (slotsMoved_retireWalked s i).calm
  have broken : Calm s (s.retireBroken i) := (walked.trans (calm_raiseStaled ..)).trans (calm_endHolds ..)
  rw [retired_eq]
  exact calm_ite (broken.trans (calm_freeEntry ..)) broken

theorem slot_retired (s : State) (i : ApIndex) (p : PortId) (k : SlotId) :
    (s.retired i).slot p k = retiredSlot i (s.slot p k) :=
  ((steady_retired s i).slot p k).trans (slot_retireWalked s i p k)

theorem retired_device (s : State) (i : ApIndex) : (s.retired i).device = s.device :=
  (steady_retired s i).device.trans (slotsMoved_retireWalked s i).device

/-- The events of APERTURE_RETIRE in their order (R78). -/
theorem raised_retired (s : State) (i : ApIndex) : Raised s (s.retired i) fun p =>
    staleEvents s (s.retired i) p ++ brokenEvents s .retire (retiredHold s i) p ++
      if (s.entry i).inFlight = 0 ∧ (s.entry i).portMask.getLsbD p.val = true ∧ (s.port p).config.maskFreed = true then
        [.apertureFreed i] else [] := by
  have moved := slotsMoved_retireWalked s i
  have walked : Told s (s.retireWalked i) fun _ => [] := told_of_slotsMoved moved
  have news : ∀ p, staleEvents s (s.retired i) p =
      staleNews (slotSet (s.port p).slots (boundTo fun copy => decide (handleIndex copy.handle = i))) :=
    fun p => staleEvents_of_staled (slot_retired s i p)
  have entry : (s.retireBroken i).entry i = { s.entry i with state := .retiring } := by
    rw [entry_retireBroken, if_pos rfl]
  refine raised_of_told fun room => ?_
  simp only [List.length_append] at room
  have stale := told_raiseStaled (s := s.retireWalked i) s
    (which := fun _ copy => decide (handleIndex copy.handle = i)) fun p => by
      have total := room p
      have start := walked.length p
      rw [news] at total
      simp only [List.length_nil] at start
      omega
  have holds : ∀ h, ((s.retireWalked i).raiseStaled s fun _ copy => decide (handleIndex copy.handle = i)).hold h = s.hold h := by
    intro h
    rw [(reports_raiseStaled ..).hold]
    unfold State.hold; rw [moved.holds]; rfl
  have breaks : ∀ p, brokenEvents ((s.retireWalked i).raiseStaled s fun _ copy => decide (handleIndex copy.handle = i)) .retire
      (retiredHold s i) p = brokenEvents s .retire (retiredHold s i) p := fun p => by
    unfold brokenEvents; simp only [holds]
  have told := (walked.trans stale).congr fun p => List.nil_append _
  have broken := told_endHolds (s := (s.retireWalked i).raiseStaled s fun _ copy => decide (handleIndex copy.handle = i))
    (reason := .retire) (which := retiredHold s i) fun p => by
      have total := room p
      have grown := told.length p
      rw [news] at total
      rw [breaks]
      omega
  have both : Told s (s.retireBroken i) fun p =>
      staleNews (slotSet (s.port p).slots (boundTo fun copy => decide (handleIndex copy.handle = i))) ++
        brokenEvents s .retire (retiredHold s i) p := (told.trans broken).congr fun p => by rw [breaks]
  have config : ∀ p, ((s.retireBroken i).port p).config = (s.port p).config := fun p =>
    ((steady_retireBroken s i).config p).trans (congrArg Port.config (moved.ports p) :)
  have freed : ∀ p, freedEvents ((s.retireBroken i).modEntry i freedEntry) ((s.retireBroken i).entry i).portMask i p =
      if (s.entry i).portMask.getLsbD p.val = true ∧ (s.port p).config.maskFreed = true then [.apertureFreed i] else [] := by
    intro p
    unfold freedEvents
    rw [port_modEntry, config, entry]
  refine Told.congr (first := fun p =>
    staleNews (slotSet (s.port p).slots (boundTo fun copy => decide (handleIndex copy.handle = i))) ++
      brokenEvents s .retire (retiredHold s i) p ++
      if (s.entry i).inFlight = 0 ∧ (s.entry i).portMask.getLsbD p.val = true ∧ (s.port p).config.maskFreed = true then
        [.apertureFreed i] else []) ?_ fun p => by rw [news]
  rw [retired_eq, entry]
  by_cases none : (s.entry i).inFlight = 0
  · simp only [none, true_and] at room ⊢
    have last := told_raiseFreed (s := (s.retireBroken i).modEntry i freedEntry)
      (ports := ((s.retireBroken i).entry i).portMask) (i := i) fun p => by
        have total := room p
        have grown := both.length p
        rw [news] at total
        rw [freed]
        simp only [List.length_append] at grown
        rw [port_modEntry]
        omega
    exact ((both.trans (told_modEntry ..)).trans last).congr fun p => by rw [freed, List.append_nil]
  · simp only [none, false_and, if_false]
    exact both.congr fun p => (List.append_nil _).symm

/-! ### The rows -/

/-- APERTURE_RETIRE of a LIVE entry whose parity is good, with its result data (R78, Table 10-5). -/
theorem doRetire_of_live {s : State} {block : List Byte} {i : ApIndex} (argument : indexArgument block = some i)
    (good : (s.entry i).parityBad = false) (live : (s.entry i).state = .live) :
    s.doRetire block = (s.retired i, .ok (retireData ((s.retired i).entry i))) := by
  have parity : ((s.modEntry i fun entry => { entry with state := .retiring }).entry i).parityBad = false := by
    rw [State.entry_modEntry_same]; exact good
  have walk := retireWalk_of_good i walkOrder (s.modEntry i fun entry => { entry with state := .retiring }) parity
  have walked : s.retireWalked i = walkOrder.foldl (fun (t : State) place => t.staleSlot i place)
      (s.modEntry i fun entry => { entry with state := .retiring }) := by
    unfold State.retireWalked; rfl
  rw [← walked] at walk
  unfold State.doRetire
  rw [argument]
  dsimp only
  rw [good, live, walk]
  rfl

theorem doRetire_of_bad {s : State} {block : List Byte} {i : ApIndex} (argument : indexArgument block = some i)
    (bad : (s.entry i).parityBad = true) (awake : s.device ≠ .halted) :
    s.doRetire block = (s.enterHalted (tableParity i), .rejected .wrongState) := by
  unfold State.doRetire
  rw [argument]
  dsimp only
  rw [if_pos bad, State.parityFail, if_neg awake]

theorem doRetire_of_not_live {s : State} {block : List Byte} {i : ApIndex} (argument : indexArgument block = some i)
    (good : (s.entry i).parityBad = false) (other : (s.entry i).state ≠ .live) :
    s.doRetire block = (s, .rejected .notLive) := by
  unfold State.doRetire
  rw [argument]
  dsimp only
  rw [good, if_pos other]
  rfl

theorem retireData_retired (s : State) (i : ApIndex) : retireData ((s.retired i).entry i) =
    if (s.entry i).inFlight = 0 then [0, BitVec.ofNat 8 ((s.entry i).generation + 1).toNat]
    else [2, BitVec.ofNat 8 (s.entry i).generation.toNat] := by
  rw [entry_retired]
  split <;> rfl

/-- Settles O46: the refusals, the last completion, and the steps of the command. -/
theorem apertureRetireStalesAndFrees : Obligations.ApertureRetireStalesAndFrees := by
  refine ⟨fun s command i h named nonzero => ⟨fun bad => ?_, fun good other => ?_⟩, fun s b entry scrub log settled served => ?_,
    fun s command i h named nonzero good live => ?_⟩
  · have awake : s.popped.device ≠ .halted := by
      intro halted
      have allowed := h.2.2
      rw [show s.device = .halted from halted] at allowed
      cases allowed
    have effect : s.popped.commandEffect command.source command.block .apertureRetire = _ :=
      doRetire_of_bad (s := s.popped) (indexArgument_of_eq named nonzero) bad awake
    exact exec_of_executes rfl h effect
  · have effect : s.popped.commandEffect command.source command.block .apertureRetire = _ :=
      doRetire_of_not_live (s := s.popped) (indexArgument_of_eq named nonzero) good other
    exact exec_of_executes rfl h effect
  · obtain ⟨t, run, others, orphaned, more, bad, good⟩ := completion_settles s b entry scrub log settled served
    refine ⟨t, run, others, orphaned, more, bad, fun own last fine => ?_⟩
    obtain ⟨device, told, table⟩ := good own last fine
    refine ⟨device, told, table.trans ?_⟩
    split
    · simp only [freedEntry, countedEntry, fine, noRights]
    · rfl
  · have effect : s.popped.commandEffect command.source command.block .apertureRetire = _ :=
      doRetire_of_live (s := s.popped) (indexArgument_of_eq named nonzero) good live
    rw [retireData_retired] at effect
    have calm := calm_retired s.popped i
    refine ⟨_, exec_of_executes rfl h effect, ?_, fun j other => entry_retired_other s.popped other, fun p k => ?_,
      fun g hold found => ?_, raised_of_popped (raised_retired s.popped i), retired_device s.popped i, calm.memory, calm.health⟩
    · rw [entry_retired]
      change (if (s.entry i).inFlight = 0 then freedEntry (s.entry i) else _) = _
      split
      · simp only [freedEntry, good, noRights]
      · rfl
    · rw [slot_retired]
      change retiredSlot i (s.slot p k) = _
      cases s.slot p k with
      | bound copy => by_cases own : handleIndex copy.handle = i <;> simp [retiredSlot, boundTo, staled, own]
      | _ => rfl
    · have kept : s.popped.hold g = some hold := found
      rw [hold_retired, kept, Option.any_some]
      exact if_congr decide_eq_true_iff rfl rfl

end Sys2Proof.Machine
end

section
/-! What the completion of an entry leaves, whatever its service did (R119). -/

namespace Sys2Proof.Machine

/-! ### The response -/

theorem egress_setTag (s : State) (p : PortId) (tag : Tag) (holder : Option Holder) :
    ((s.setTag p tag holder).port p).egress = (s.port p).egress := by
  rw [State.setTag, State.port_modPort_same]

/-- A response for which the egress queue has room is queued, and nothing is recorded (R48). -/
theorem respond_of_room {s : State} {p : PortId} (room : (s.port p).egress.length < 32) (r : Response) :
    ((s.respond p r).port p).egress = (s.port p).egress ++ [{ placed := s.order, response := r }] ∧
      (∀ tag, (s.respond p r).tagHolder p tag = if r.tag = tag then none else s.tagHolder p tag) ∧
      (s.respond p r).faults = s.faults := by
  have queued : s.respond p r = ((s.setTag p r.tag none).modPort p fun port =>
      { port with egress := port.egress ++ [{ placed := s.order, response := r }] }).nextPlace := if_pos room
  have port : (s.respond p r).port p = { (s.setTag p r.tag none).port p with
      egress := (s.port p).egress ++ [{ placed := s.order, response := r }] } := by
    have placed := State.port_modPort_same (s.setTag p r.tag none) p fun port =>
      { port with egress := port.egress ++ [{ placed := s.order, response := r }] }
    rw [queued, ← egress_setTag s p r.tag none]
    exact placed
  refine ⟨by rw [port], fun tag => ?_, by rw [queued]; rfl⟩
  have tags : (s.respond p r).tagHolder p tag = (s.setTag p r.tag none).tagHolder p tag := by
    rw [State.tagHolder, port]; rfl
  rw [tags, State.tagHolder_setTag]
  exact if_congr (and_iff_right rfl) rfl rfl

/-- What follows a response on its port: further responses may join the queue, and a FREE tag stays FREE. -/
structure Appends (p : PortId) (s t : State) : Prop where
  egress : (s.port p).egress <+: (t.port p).egress
  tags : ∀ tag, s.tagHolder p tag = none → t.tagHolder p tag = none

theorem appends_respond (s : State) (p : PortId) (r : Response) : Appends p s (s.respond p r) := by
  have freed : ∀ tag, s.tagHolder p tag = none → (s.setTag p r.tag none).tagHolder p tag = none := fun tag free => by
    rw [State.tagHolder_setTag, free]; split <;> rfl
  by_cases room : (s.port p).egress.length < 32
  · obtain ⟨egress, tags, -⟩ := respond_of_room room r
    refine ⟨by rw [egress]; exact List.prefix_append .., fun tag free => ?_⟩
    rw [tags, free]; split <;> rfl
  · have lost : s.respond p r = ((s.setTag p r.tag none).offer
        { code := .responseLost, port := some p, tag := some r.tag }).raise p (.protocolError r.tag .responseLost) :=
      if_neg room
    have told := ((reports_offer (s.setTag p r.tag none) { code := .responseLost, port := some p, tag := some r.tag }).trans
      (reports_raise _ p (.protocolError r.tag .responseLost)))
    rw [lost]
    refine ⟨?_, fun tag free => (told.tagHolder p tag).trans (freed tag free)⟩
    rw [told.steady.egress, egress_setTag]

/-- The FENCE that waits at the head may be answered. -/
theorem appends_fenceTest (s : State) (p : PortId) : Appends p s (s.fenceTest p) := by
  unfold State.fenceTest
  split
  · have popped : (s.popHead p).port p = { s.port p with fifo := (s.port p).fifo.tail, head := .none, attemptDue := false } :=
      State.port_modPort_same ..
    obtain ⟨egress, tags⟩ := appends_respond (s.popHead p) p
      { tag := (headerOf ((s.port p).fifo.headD [])).tag, status := .ok }
    rw [popped] at egress
    refine ⟨egress, fun tag free => tags tag ?_⟩
    rw [State.tagHolder, popped]
    exact free
  · exact ⟨List.prefix_rfl, fun _ free => free⟩

theorem fenceTest_of_not_waiting {s : State} {p : PortId} (h : (s.port p).head ≠ .waitingFence) : s.fenceTest p = s := by
  have idle : fenceDue (s.port p) = false := by
    unfold fenceDue
    split
    · next head _ => exact absurd head h
    · rfl
  rw [State.fenceTest, idle]
  rfl

theorem fenceTest_faults {s : State} {p : PortId} (room : (s.port p).egress.length < 32) :
    (s.fenceTest p).faults = s.faults := by
  unfold State.fenceTest
  split
  · have popped : ((s.popHead p).port p).egress = (s.port p).egress := by rw [State.popHead, State.port_modPort_same]
    exact (respond_of_room (s := s.popHead p) (by rw [popped]; exact room) _).2.2
  · rfl

/-! ### The in-flight count -/

/-- Nothing of the banks, the sequencer, the egress queues or the tags differs. -/
structure Quiet (s t : State) : Prop where
  banks : t.banks = s.banks
  mgmt : t.mgmt = s.mgmt
  egress : ∀ p, (t.port p).egress = (s.port p).egress
  tags : ∀ p tag, t.tagHolder p tag = s.tagHolder p tag

theorem Quiet.refl (s : State) : Quiet s s := ⟨rfl, rfl, fun _ => rfl, fun _ _ => rfl⟩

theorem Quiet.trans {a b c : State} (h : Quiet a b) (k : Quiet b c) : Quiet a c :=
  ⟨k.banks.trans h.banks, k.mgmt.trans h.mgmt, fun p => (k.egress p).trans (h.egress p),
    fun p tag => (k.tags p tag).trans (h.tags p tag)⟩

theorem Trained.quiet {s t : State} (h : Trained s t) : Quiet s t := ⟨h.banks, h.mgmt, h.egress, h.tagHolder⟩

theorem Reports.quiet {s t : State} (h : Reports s t) : Quiet s t := h.trained.quiet

theorem quiet_modEntry (s : State) (i : ApIndex) (f : ApEntry → ApEntry) : Quiet s (s.modEntry i f) :=
  ⟨rfl, rfl, fun _ => rfl, fun _ _ => rfl⟩

theorem quiet_promptAttempts (s : State) : Quiet s s.promptAttempts :=
  ⟨rfl, rfl, (steady_promptAttempts s).egress, (steady_promptAttempts s).tagHolder⟩

theorem quiet_settleInFlight (s : State) (i : ApIndex) : Quiet s (s.settleInFlight i) := by
  have dropped : Quiet s (s.dropInFlight i) := quiet_modEntry ..
  rw [settleInFlight_eq]
  split
  · split
    · exact dropped.trans (trained_parityFail ..).quiet
    · split
      · exact (dropped.trans (quiet_modEntry ..)).trans (reports_raiseFreed ..).quiet
      · exact dropped
  · exact dropped

theorem calm_settleInFlight (s : State) (i : ApIndex) : Calm s (s.settleInFlight i) := by
  have dropped : Calm s (s.dropInFlight i) := calm_modEntry ..
  rw [settleInFlight_eq]
  exact calm_ite (calm_ite (dropped.trans (calm_parityFail ..)) (calm_ite (dropped.trans (calm_freeEntry ..)) dropped)) dropped

theorem quiet_lowered (s : State) (entry : Entry) : Quiet s (s.lowered entry) := by
  unfold State.lowered
  split
  · exact .refl s
  · exact quiet_settleInFlight ..

/-- Where nothing is freed and no lookup fails, settling records nothing. -/
theorem lowered_faults {s : State} {entry : Entry} (h : entry.orphaned = true ∨ 2 ≤ (s.entry entry.aperture).inFlight ∨
    (s.entry entry.aperture).parityBad = false ∧ (s.entry entry.aperture).state ≠ .retiring) :
    (s.lowered entry).faults = s.faults := by
  unfold State.lowered
  split
  · rfl
  · next own =>
    rw [settleInFlight_eq]
    rcases h with orphaned | more | ⟨good, other⟩
    · exact absurd orphaned own
    · rw [if_neg (by omega)]; rfl
    · rw [good, if_neg other]
      split <;> rfl

/-! ### The completion -/

/-- What the completion of an entry does, by what its service did (R119). -/
structure Completion (s : State) (b : BankId) (entry : Entry) (served : Served) (t : State) : Prop where
  calm : Calm served.state t
  mgmt : t.mgmt = served.state.mgmt
  bank : ∀ c, t.bank c = if b = c then leaveQueue entry.position (served.state.bank b) else served.state.bank c
  answered : Answered s t entry
    { tag := entry.tag, status := served.status, compareEqual := served.compareEqual, payload := served.payload }
  faults : s.ReportsOnlyData entry → t.faults = (served.offers.foldl State.offer s).faults

theorem reported_of_discarded (served : Served) {entry : Entry} (gone : entry.discarded = true) :
    served.reported entry = served.state.offerAll served.offers := by
  rw [Served.reported, State.respondServed, gone]; rfl

theorem fronted_reported (served : Served) (entry : Entry) : Fronted served.state (served.reported entry) :=
  (reports_offerAll ..).fronted.trans (fronted_respondServed ..)

section
variable {s : State} {served : Served} (kept : ServeKept s served.state) (b : BankId) (entry : Entry)
include kept

theorem port_offered (p : PortId) : PortReports (s.port p) ((served.state.offerAll served.offers).port p) := by
  rw [← kept.port p]
  exact (reports_offerAll ..).ports p

theorem reported_of_live (own : entry.discarded = false) (room : (s.port entry.port).egress.length < 32) :
    ((served.reported entry).port entry.port).egress = (s.port entry.port).egress ++
        [{ placed := (served.state.offerAll served.offers).order,
           response := { tag := entry.tag, status := served.status, compareEqual := served.compareEqual,
                         payload := served.payload } }] ∧
      (served.reported entry).tagHolder entry.port entry.tag = none ∧
      (served.reported entry).faults = (served.state.offerAll served.offers).faults := by
  have answered : served.reported entry = (served.state.offerAll served.offers).respond entry.port
      { tag := entry.tag, status := served.status, compareEqual := served.compareEqual, payload := served.payload } := by
    rw [Served.reported, State.respondServed, own]; rfl
  have before : ((served.state.offerAll served.offers).port entry.port).egress = (s.port entry.port).egress := by
    rw [port_offered kept]
  obtain ⟨egress, tags, faults⟩ := respond_of_room (s := served.state.offerAll served.offers) (p := entry.port)
    (by rw [before]; exact room)
    { tag := entry.tag, status := served.status, compareEqual := served.compareEqual, payload := served.payload }
  rw [answered]
  exact ⟨by rw [egress, before], by rw [tags, if_pos rfl], faults⟩

/-- The response of an entry that is not discarded, and the tag that it frees (R119, step 3). -/
theorem answered_of_live (own : entry.discarded = false) (room : (s.port entry.port).egress.length < 32) :
    let t := (((served.reported entry).fenced b entry).lowered entry).promptAttempts
    (∃ placed, (s.port entry.port).egress ++ [{ placed := placed, response :=
        { tag := entry.tag, status := served.status, compareEqual := served.compareEqual, payload := served.payload } }] <+:
          (t.port entry.port).egress) ∧ t.tagHolder entry.port entry.tag = none := by
  have quiet := (quiet_lowered ((served.reported entry).fenced b entry) entry).trans (quiet_promptAttempts _)
  obtain ⟨egress, tag, -⟩ := reported_of_live kept entry own room
  have tested := appends_fenceTest ((served.reported entry).modBank b (leaveQueue entry.position)) entry.port
  refine ⟨⟨(served.state.offerAll served.offers).order, ?_⟩, (quiet.tags ..).trans (tested.tags _ tag)⟩
  rw [quiet.egress, ← egress]
  exact tested.egress

/-- A discarded entry answers nothing (R21). -/
theorem answered_of_discarded (gone : entry.discarded = true) (free : (s.port entry.port).head ≠ .waitingFence) :
    let t := (((served.reported entry).fenced b entry).lowered entry).promptAttempts
    (t.port entry.port).egress = (s.port entry.port).egress ∧
      ∀ tag, t.tagHolder entry.port tag = s.tagHolder entry.port tag := by
  have quiet := (quiet_lowered ((served.reported entry).fenced b entry) entry).trans (quiet_promptAttempts _)
  have port := port_offered kept entry.port
  have head : (((served.reported entry).modBank b (leaveQueue entry.position)).port entry.port).head ≠ .waitingFence := by
    rw [reported_of_discarded served gone]
    change ((served.state.offerAll served.offers).port entry.port).head ≠ .waitingFence
    rw [port]
    exact free
  have fenced : (served.reported entry).fenced b entry =
      (served.state.offerAll served.offers).modBank b (leaveQueue entry.position) := by
    rw [State.fenced, fenceTest_of_not_waiting head, reported_of_discarded served gone]
  refine ⟨?_, fun tag => ?_⟩
  · rw [quiet.egress, fenced]
    change ((served.state.offerAll served.offers).port entry.port).egress = _
    rw [port]
  · rw [quiet.tags, fenced]
    change (served.state.offerAll served.offers).tagHolder entry.port tag = _
    rw [State.tagHolder, port]
    rfl

/-- Where its response and that of a FENCE are not lost and no aperture is freed or fails its check, the completion records
what its service offers. -/
theorem faults_of_reportsOnlyData (h : s.ReportsOnlyData entry) :
    (((served.reported entry).fenced b entry).lowered entry).promptAttempts.faults =
      (served.offers.foldl State.offer s).faults := by
  obtain ⟨room, still⟩ := h
  have offered : (served.state.offerAll served.offers).faults = (served.offers.foldl State.offer s).faults :=
    (sameView_foldl (fun fault h => sameView_offer h fault) served.offers kept.toSameView).faults
  obtain ⟨few, faults⟩ : ((served.reported entry).port entry.port).egress.length < 32 ∧
      (served.reported entry).faults = (served.state.offerAll served.offers).faults := by
    cases gone : entry.discarded with
    | true =>
      rw [reported_of_discarded served gone, port_offered kept]
      exact ⟨Nat.lt_succ_of_lt room, rfl⟩
    | false =>
      obtain ⟨egress, -, faults⟩ := reported_of_live kept entry gone (Nat.lt_succ_of_lt room)
      refine ⟨?_, faults⟩
      rw [egress, List.length_append, List.length_singleton]
      omega
  have front := (fronted_fenceTest ((served.reported entry).modBank b (leaveQueue entry.position)) entry.port)
  have table : ((served.reported entry).fenced b entry).entry entry.aperture = s.entry entry.aperture := by
    rw [State.fenced, front.entry, State.entry_modBank, (fronted_reported served entry).entry, State.entry, kept.apertures]
    rfl
  have tested : ((served.reported entry).fenced b entry).faults = (served.reported entry).faults :=
    fenceTest_faults (s := (served.reported entry).modBank b (leaveQueue entry.position)) few
  have settled := lowered_faults (s := (served.reported entry).fenced b entry) (entry := entry) (by rw [table]; exact still)
  exact settled.trans (tested.trans (faults.trans offered))

end

theorem completion_completeEntry (s : State) (b : BankId) (entry : Entry) (scrub log : Bool) :
    Completion s b entry (s.serve b entry scrub log) (s.completeEntry b entry scrub log) := by
  have kept := serveKept_serve s b entry scrub log
  rw [completeEntry_eq]
  generalize s.serve b entry scrub log = served at kept
  have quiet := (quiet_lowered ((served.reported entry).fenced b entry) entry).trans (quiet_promptAttempts _)
  have front := fronted_reported served entry
  refine ⟨?_, ?_, fun c => ?_, ⟨answered_of_live kept b entry, answered_of_discarded kept b entry⟩,
    faults_of_reportsOnlyData kept b entry⟩
  · have reported : Calm served.state (served.reported entry) :=
      (reports_offerAll ..).calm.trans (calm_ite (.refl _) (calm_respond ..))
    have fenced : Calm (served.reported entry) ((served.reported entry).fenced b entry) :=
      (calm_modBank ..).trans (calm_fenceTest ..)
    have lowered : Calm ((served.reported entry).fenced b entry) (((served.reported entry).fenced b entry).lowered entry) :=
      calm_ite (.refl _) (calm_settleInFlight ..)
    exact ((reported.trans fenced).trans lowered).trans (calm_promptAttempts _)
  · rw [quiet.mgmt, State.fenced, (fronted_fenceTest ..).mgmt, State.modBank_mgmt, front.mgmt]
  · have banks : (((served.reported entry).fenced b entry).lowered entry).promptAttempts.bank c =
        ((served.reported entry).fenced b entry).bank c := by
      unfold State.bank; rw [quiet.banks]
    rw [banks, bank_fenced, front.bank, front.bank]

end Sys2Proof.Machine
end

section
/-! The service of a READ (R114, R117). -/

namespace Sys2Proof.Machine

/-! ### One unit -/

/-- A CORRECTABLE unit read: counted, and cleaned where scrubbing was on (R117). -/
def State.scrubbed (s : State) (b : BankId) (scrub : Bool) (unit : UnitAddr) : State :=
  if scrub then (s.countCorrected b).setHealth unit .clean else s.countCorrected b

/-- What a READ leaves as it was (R114). -/
structure ReadKept (b : BankId) (s t : State) : Prop where
  memory : t.memory = s.memory
  mgmt : t.mgmt = s.mgmt
  others : ∀ c, c ≠ b → t.bank c = s.bank c

theorem ReadKept.refl (b : BankId) (s : State) : ReadKept b s s := ⟨rfl, rfl, fun _ _ => rfl⟩

theorem ReadKept.trans {b : BankId} {s t u : State} (h : ReadKept b s t) (k : ReadKept b t u) : ReadKept b s u :=
  ⟨k.memory.trans h.memory, k.mgmt.trans h.mgmt, fun c other => (k.others c other).trans (h.others c other)⟩

theorem ReadKept.unitData {b : BankId} {s t : State} (h : ReadKept b s t) : t.unitData = s.unitData := by
  funext unit; rw [State.unitData, h.memory]; rfl

theorem readKept_scrubbed (s : State) (b : BankId) (scrub : Bool) (unit : UnitAddr) : ReadKept b s (s.scrubbed b scrub unit) := by
  have counted : ReadKept b s (s.countCorrected b) :=
    ⟨rfl, rfl, fun c other => (State.bank_modBank ..).trans (if_neg other.symm)⟩
  unfold State.scrubbed
  split
  · exact ⟨counted.memory, counted.mgmt, counted.others⟩
  · exact counted

theorem bank_scrubbed (s : State) (b : BankId) (scrub : Bool) (unit : UnitAddr) : (s.scrubbed b scrub unit).bank b =
    { s.bank b with corrected := count16 (s.bank b).corrected } := by
  have counted : (s.countCorrected b).bank b = { s.bank b with corrected := count16 (s.bank b).corrected } :=
    State.bank_modBank_same ..
  unfold State.scrubbed
  split
  · exact counted
  · exact counted

theorem memoryWf_scrubbed {s : State} (wf : s.MemoryWf) (b : BankId) (scrub : Bool) (unit : UnitAddr) :
    (s.scrubbed b scrub unit).MemoryWf := by
  have counted : (s.countCorrected b).MemoryWf := State.memoryWf_congr wf rfl rfl
  unfold State.scrubbed
  split
  · exact State.memoryWf_setHealth counted ..
  · exact counted

theorem unitHealth_scrubbed {s : State} (wf : s.MemoryWf) (b : BankId) (scrub : Bool) (unit other : UnitAddr) :
    (s.scrubbed b scrub unit).unitHealth other = if scrub = true ∧ other = unit then .clean else s.unitHealth other := by
  have counted : (s.countCorrected b).MemoryWf := State.memoryWf_congr wf rfl rfl
  unfold State.scrubbed
  cases scrub with
  | true =>
    rw [if_pos rfl, State.unitHealth_setHealth counted]
    exact if_congr (and_iff_right rfl).symm rfl rfl
  | false => simp; rfl

/-! ### The units in order -/

section
variable (s : State) (b : BankId) (entry : Entry) (scrub log : Bool) (unit : UnitAddr) (rest : List UnitAddr)

theorem readUnits_of_clean (h : s.unitHealth unit = .clean) : s.readUnits b entry scrub log (unit :: rest) =
    let after := s.readUnits b entry scrub log rest
    (after.1, s.unitData unit ++ after.2.1, after.2.2.1, after.2.2.2) := by
  rw [State.readUnits, h]

theorem readUnits_of_correctable (h : s.unitHealth unit = .correctable) : s.readUnits b entry scrub log (unit :: rest) =
    let after := (s.scrubbed b scrub unit).readUnits b entry scrub log rest
    (after.1, s.unitData unit ++ after.2.1, after.2.2.1, correctedOffers log entry unit ++ after.2.2.2) := by
  rw [State.readUnits, h]
  rfl

theorem readUnits_of_uncorrectable (h : s.unitHealth unit = .uncorrectable) : s.readUnits b entry scrub log (unit :: rest) =
    let after := s.readUnits b entry scrub log rest
    (after.1, after.2.1, some unit, after.2.2.2) := by
  rw [State.readUnits, h]

end

theorem readKept_readUnits (b : BankId) (entry : Entry) (scrub log : Bool) : ∀ (units : List UnitAddr) (s : State),
    ReadKept b s (s.readUnits b entry scrub log units).1
  | [], s => .refl b s
  | unit :: rest, s => by
    cases health : s.unitHealth unit with
    | clean => rw [readUnits_of_clean _ _ _ _ _ _ _ health]; exact readKept_readUnits b entry scrub log rest s
    | correctable =>
      rw [readUnits_of_correctable _ _ _ _ _ _ _ health]
      exact (readKept_scrubbed s b scrub unit).trans (readKept_readUnits b entry scrub log rest _)
    | uncorrectable => rw [readUnits_of_uncorrectable _ _ _ _ _ _ _ health]; exact readKept_readUnits b entry scrub log rest s

/-- Scrubbing makes the CORRECTABLE units that were read CLEAN, and nothing else changes a health (R117). -/
theorem unitHealth_readUnits (b : BankId) (entry : Entry) (scrub log : Bool) (other : UnitAddr) :
    ∀ (units : List UnitAddr) (s : State), s.MemoryWf →
      (s.readUnits b entry scrub log units).1.unitHealth other =
        if scrub = true ∧ other ∈ units ∧ s.unitHealth other = .correctable then .clean else s.unitHealth other
  | [], s, _ => by simp [State.readUnits]
  | unit :: rest, s, wf => by
    cases health : s.unitHealth unit with
    | clean =>
      rw [readUnits_of_clean _ _ _ _ _ _ _ health]
      refine (unitHealth_readUnits b entry scrub log other rest s wf).trans ?_
      by_cases same : other = unit
      · subst same; simp [health]
      · simp [same]
    | correctable =>
      rw [readUnits_of_correctable _ _ _ _ _ _ _ health]
      refine (unitHealth_readUnits b entry scrub log other rest _ (memoryWf_scrubbed wf b scrub unit)).trans ?_
      rw [unitHealth_scrubbed wf]
      by_cases same : other = unit
      · subst same
        cases scrub <;> simp [health]
      · simp [same]
    | uncorrectable =>
      rw [readUnits_of_uncorrectable _ _ _ _ _ _ _ health]
      refine (unitHealth_readUnits b entry scrub log other rest s wf).trans ?_
      by_cases same : other = unit
      · subst same; simp [health]
      · simp [same]

/-- Scrubbing makes no unit UNCORRECTABLE and none less so. -/
theorem uncorrectable_scrubbed {s : State} (wf : s.MemoryWf) {b : BankId} {scrub : Bool} {unit : UnitAddr}
    (h : s.unitHealth unit = .correctable) (other : UnitAddr) :
    (s.scrubbed b scrub unit).unitHealth other = .uncorrectable ↔ s.unitHealth other = .uncorrectable := by
  rw [unitHealth_scrubbed wf]
  split
  · next same => rw [same.2, h]; simp
  · exact Iff.rfl

/-- The UNCORRECTABLE unit that a READ reports is the first (R114). -/
theorem poisoned_readUnits (b : BankId) (entry : Entry) (scrub log : Bool) : ∀ (units : List UnitAddr) (s : State), s.MemoryWf →
    (s.readUnits b entry scrub log units).2.2.1 = units.find? fun unit => s.unitHealth unit = .uncorrectable
  | [], _, _ => rfl
  | unit :: rest, s, wf => by
    cases health : s.unitHealth unit with
    | clean =>
      rw [readUnits_of_clean _ _ _ _ _ _ _ health, List.find?_cons_of_neg (by simp [health])]
      exact poisoned_readUnits b entry scrub log rest s wf
    | correctable =>
      rw [readUnits_of_correctable _ _ _ _ _ _ _ health, List.find?_cons_of_neg (by simp [health])]
      refine (poisoned_readUnits b entry scrub log rest _ (memoryWf_scrubbed wf b scrub unit)).trans ?_
      refine congrArg (fun test : UnitAddr → Bool => rest.find? test) (funext fun other => ?_)
      exact decide_eq_decide.2 (uncorrectable_scrubbed wf health other)
    | uncorrectable =>
      rw [readUnits_of_uncorrectable _ _ _ _ _ _ _ health, List.find?_cons_of_pos (by simp [health])]

/-- The data of a READ of units none of which is UNCORRECTABLE (R114). -/
theorem data_readUnits (b : BankId) (entry : Entry) (scrub log : Bool) : ∀ (units : List UnitAddr) (s : State), s.MemoryWf →
    (∀ unit ∈ units, s.unitHealth unit ≠ .uncorrectable) →
      (s.readUnits b entry scrub log units).2.1 = units.flatMap s.unitData
  | [], _, _, _ => rfl
  | unit :: rest, s, wf, sound => by
    have tail : ∀ other ∈ rest, s.unitHealth other ≠ .uncorrectable := fun other mem => sound other (List.mem_cons_of_mem _ mem)
    cases health : s.unitHealth unit with
    | clean =>
      rw [readUnits_of_clean _ _ _ _ _ _ _ health, List.flatMap_cons, ← data_readUnits b entry scrub log rest s wf tail]
    | correctable =>
      have same := (readKept_scrubbed s b scrub unit).unitData
      rw [readUnits_of_correctable _ _ _ _ _ _ _ health, List.flatMap_cons, ← same,
        ← data_readUnits b entry scrub log rest _ (memoryWf_scrubbed wf b scrub unit)
          fun other mem => mt (uncorrectable_scrubbed wf health other).1 (tail other mem), same]
    | uncorrectable => exact absurd health (sound unit List.mem_cons_self)

/-- In a list without repetition, scrubbing one unit leaves the health of the others. -/
theorem filter_scrubbed {s : State} (wf : s.MemoryWf) (b : BankId) (scrub : Bool) {unit : UnitAddr} {rest : List UnitAddr}
    (fresh : unit ∉ rest) : (rest.filter fun other => (s.scrubbed b scrub unit).unitHealth other = .correctable) =
      rest.filter fun other => s.unitHealth other = .correctable := by
  refine List.filter_congr fun other mem => ?_
  have away : ¬(scrub = true ∧ other = unit) := fun ⟨_, same⟩ => fresh (same ▸ mem)
  rw [unitHealth_scrubbed wf, if_neg away]

theorem count16_toNat (counter : BitVec 16) : (count16 counter).toNat = min 65535 (counter.toNat + 1) := by
  have bound := counter.isLt
  unfold count16
  split
  · next full => subst full; rfl
  · next room =>
    have different : counter.toNat ≠ 65535 := fun e => room (BitVec.eq_of_toNat_eq e)
    rw [BitVec.toNat_add]
    change (counter.toNat + 1) % 65536 = _
    omega

/-- Each CORRECTABLE unit of a READ is counted, and gets a CORRECTED record where they are wanted (R117). -/
theorem corrected_readUnits (b : BankId) (entry : Entry) (scrub log : Bool) : ∀ (units : List UnitAddr) (s : State), s.MemoryWf →
    units.Nodup →
      let found := units.filter fun unit => s.unitHealth unit = .correctable
      (s.readUnits b entry scrub log units).2.2.2 = (if log = true then found else []).map (dataOffer .corrected entry) ∧
        (((s.readUnits b entry scrub log units).1.bank b).corrected).toNat =
          min 65535 ((s.bank b).corrected.toNat + found.length)
  | [], s, _, _ => by
    have bound := (s.bank b).corrected.isLt
    refine ⟨by simp [State.readUnits], ?_⟩
    simp only [State.readUnits, List.filter_nil, List.length_nil]
    omega
  | unit :: rest, s, wf, nodup => by
    obtain ⟨fresh, nodup⟩ := List.nodup_cons.1 nodup
    cases health : s.unitHealth unit with
    | clean =>
      rw [readUnits_of_clean _ _ _ _ _ _ _ health]
      simp only [health, reduceCtorEq, decide_false, Bool.false_eq_true, not_false_eq_true, List.filter_cons_of_neg]
      exact corrected_readUnits b entry scrub log rest s wf nodup
    | correctable =>
      obtain ⟨offers, counted⟩ := corrected_readUnits b entry scrub log rest _ (memoryWf_scrubbed wf b scrub unit) nodup
      rw [filter_scrubbed wf b scrub fresh] at offers counted
      rw [bank_scrubbed] at counted
      rw [readUnits_of_correctable _ _ _ _ _ _ _ health]
      simp only [health, decide_true, List.filter_cons_of_pos, List.length_cons]
      refine ⟨?_, counted.trans ?_⟩
      · rw [offers]
        cases log <;> rfl
      · rw [count16_toNat]
        omega
    | uncorrectable =>
      rw [readUnits_of_uncorrectable _ _ _ _ _ _ _ health]
      simp only [health, reduceCtorEq, decide_false, Bool.false_eq_true, not_false_eq_true, List.filter_cons_of_neg]
      exact corrected_readUnits b entry scrub log rest s wf nodup

end Sys2Proof.Machine
end

section
/-! The completion of a READ (R114, R117, R119). -/

namespace Sys2Proof.Machine

theorem nodup_unitsFrom {first : UnitAddr} {length : Nat} (h : length ≤ 4194304) : (unitsFrom first length).Nodup := by
  refine List.Nodup.map_on (fun a ma b mb same => ?_) List.nodup_range
  have la := List.mem_range.1 ma
  have lb := List.mem_range.1 mb
  have steps := congrArg BitVec.toNat (add_left_cancel same)
  simp only [BitVec.toNat_ofNat] at steps
  omega

/-- The service of a READ: it answers POISONED where a unit is UNCORRECTABLE, and its data where none is (R114). -/
theorem serveRead_cases {s : State} (wf : s.MemoryWf) (b : BankId) (entry : Entry) (scrub log : Bool) :
    let units := unitsFrom entry.unit entry.length
    let read := s.readUnits b entry scrub log units
    s.serveRead b entry scrub log =
      { state := read.1
        status := if ∃ unit ∈ units, s.unitHealth unit = .uncorrectable then .poisoned else .ok
        payload := if ∃ unit ∈ units, s.unitHealth unit = .uncorrectable then [] else units.flatMap s.unitData
        offers := read.2.2.2 ++
          (units.find? fun unit => s.unitHealth unit = .uncorrectable).toList.map (dataOffer .poisoned entry) } := by
  dsimp only
  have first := poisoned_readUnits b entry scrub log (unitsFrom entry.unit entry.length) s wf
  have data := data_readUnits b entry scrub log (unitsFrom entry.unit entry.length) s wf
  unfold State.serveRead
  rw [← first]
  cases found : (s.readUnits b entry scrub log (unitsFrom entry.unit entry.length)).2.2.1 with
  | none =>
    have sound : ∀ unit ∈ unitsFrom entry.unit entry.length, s.unitHealth unit ≠ .uncorrectable := fun unit mem bad =>
      List.find?_eq_none.1 (first.symm.trans found) unit mem (decide_eq_true bad)
    have none : ¬∃ unit ∈ unitsFrom entry.unit entry.length, s.unitHealth unit = .uncorrectable :=
      fun ⟨unit, mem, bad⟩ => sound unit mem bad
    rw [if_neg none, if_neg none, ← data sound]
    simp [found]
  | some unit =>
    have some : ∃ unit ∈ unitsFrom entry.unit entry.length, s.unitHealth unit = .uncorrectable :=
      ⟨unit, List.mem_of_find?_eq_some (first.symm.trans found),
        by simpa using List.find?_some (first.symm.trans found)⟩
    rw [if_pos some, if_pos some]
    simp [found]

theorem serve_of_read {s : State} {b : BankId} {entry : Entry} {scrub log : Bool} (op : entry.op = .read) :
    s.serve b entry scrub log = s.serveRead b entry scrub log := by simp only [State.serve, op]

/-- What every completion leaves of its bank: IDLE, without the entry (R119). -/
theorem Completion.own {s t : State} {b : BankId} {entry : Entry} {served : Served} (h : Completion s b entry served t) :
    t.bank b = leaveQueue entry.position (served.state.bank b) := (h.bank b).trans (if_pos rfl)

theorem Completion.idle {s t : State} {b : BankId} {entry : Entry} {served : Served} (h : Completion s b entry served t) :
    (t.bank b).state = .idle := by rw [h.own]; rfl

theorem Completion.corrected {s t : State} {b : BankId} {entry : Entry} {served : Served} (h : Completion s b entry served t)
    (c : BankId) : (t.bank c).corrected = (served.state.bank c).corrected := by
  rw [h.bank]
  split
  · next same => subst same; rfl
  · rfl

/-- Settles O34: the service of the units, and what every completion does. -/
theorem readServiceAnswers : Obligations.ReadServiceAnswers := by
  intro s b entry scrub log settled wf served op
  have run := exec_completionOf settled served
  rw [op] at run
  have done := completion_completeEntry s b entry scrub log
  rw [serve_of_read op, serveRead_cases wf] at done
  have kept := readKept_readUnits b entry scrub log (unitsFrom entry.unit entry.length) s
  refine ⟨_, run, ?_, done.idle, fun other mem => ?_, done.calm.memory.trans kept.memory, done.mgmt.trans kept.mgmt,
    fun unit => ?_, fun few => ?_, fun c other => ?_, fun few only => ?_⟩
  · have answered := done.answered
    by_cases bad : ∃ unit ∈ unitsFrom entry.unit entry.length, s.unitHealth unit = .uncorrectable
    · simp only [if_pos bad] at answered ⊢
      exact answered
    · simp only [if_neg bad] at answered ⊢
      exact answered
  · rw [done.own] at mem
    exact of_decide_eq_true (List.mem_filter.1 mem).2
  · rw [State.unitHealth, done.calm.health]
    exact unitHealth_readUnits b entry scrub log unit _ s wf
  · rw [done.corrected]
    exact (corrected_readUnits b entry scrub log _ s wf (nodup_unitsFrom (by omega))).2
  · rw [done.corrected]
    exact congrArg Bank.corrected (kept.others c other)
  · have offers := (corrected_readUnits b entry scrub log _ s wf (nodup_unitsFrom (first := entry.unit)
      (length := entry.length) (by omega))).1
    have faults := done.faults only
    rw [offers] at faults
    exact faults

end Sys2Proof.Machine
end

section
/-! The services that write units, with the ECC injection arm (R115, R118, R179). -/

namespace Sys2Proof.Machine

/-! ### One unit -/

/-- The health that a write gives a unit: CLEAN, but for the unit that the arm names (R115, R118). -/
def Mgmt.writtenHealth (m : Mgmt) (unit : UnitAddr) : Health :=
  match m.arm with
  | some (armed, kind) => if armed = unit then injectedHealth kind else .clean
  | none => .clean

/-- The arm after a write of a unit: consumed where it names the unit (R118). -/
def Mgmt.written (m : Mgmt) (unit : UnitAddr) : Mgmt :=
  match m.arm with
  | some (armed, _) => if armed = unit then { m with arm := none, consumed := true } else m
  | none => m

theorem writeUnit_eq (s : State) (unit : UnitAddr) (data : List Byte) : s.writeUnit unit data =
    ((s.setData unit data).setHealth unit (s.mgmt.writtenHealth unit)).modMgmt fun m => m.written unit := by
  have mgmt : ((s.setData unit data).setHealth unit (s.mgmt.writtenHealth unit)).mgmt = s.mgmt := rfl
  rw [State.modMgmt, mgmt]
  unfold State.writeUnit Mgmt.writtenHealth Mgmt.written
  cases armed : s.mgmt.arm with
  | none => rfl
  | some arm =>
    obtain ⟨target, kind⟩ := arm
    by_cases own : target = unit
    · simp only [own, if_true]
      rw [State.modMgmt]
      rfl
    · simp only [own, if_false]
      rfl

theorem mgmt_writeUnit (s : State) (unit : UnitAddr) (data : List Byte) :
    (s.writeUnit unit data).mgmt = s.mgmt.written unit := by rw [writeUnit_eq]; rfl

theorem banks_writeUnit (s : State) (unit : UnitAddr) (data : List Byte) : (s.writeUnit unit data).banks = s.banks := by
  rw [writeUnit_eq]; rfl

theorem memoryWf_writeUnit {s : State} (wf : s.MemoryWf) (unit : UnitAddr) (data : List Byte) :
    (s.writeUnit unit data).MemoryWf := by
  have stored := State.memoryWf_setHealth (State.memoryWf_setData wf unit data) unit (s.mgmt.writtenHealth unit)
  rw [writeUnit_eq]
  exact State.memoryWf_congr stored rfl rfl

theorem unitHealth_writeUnit {s : State} (wf : s.MemoryWf) (unit : UnitAddr) (data : List Byte) (other : UnitAddr) :
    (s.writeUnit unit data).unitHealth other =
      if other = unit then s.mgmt.writtenHealth unit else s.unitHealth other := by
  rw [writeUnit_eq]
  exact State.unitHealth_setHealth (State.memoryWf_setData wf unit data) ..

theorem byteOf_writeUnit {s : State} (wf : s.MemoryWf) (unit : UnitAddr) {data : List Byte} (whole : data.length = 16)
    (address : Nat) : (s.writeUnit unit data).byteOf address =
      if address / 16 = unit.toNat then data.getD (address % 16) 0 else s.byteOf address := by
  have stored := sparseRead_writeBytes wf.data (unit.toNat * 16) address (data.take 16)
  rw [List.take_of_length_le (Nat.le_of_eq whole), whole] at stored
  have same : (s.writeUnit unit data).memory = writeBytes s.memory (unit.toNat * 16) data := by
    rw [writeUnit_eq]
    exact congrArg (writeBytes s.memory (unit.toNat * 16)) (List.take_of_length_le (Nat.le_of_eq whole))
  rw [State.byteOf, same, stored]
  by_cases inside : address / 16 = unit.toNat
  · have place : address - unit.toNat * 16 = address % 16 := by omega
    rw [if_pos inside, if_pos (by omega), place]
  · rw [if_neg inside, if_neg (by omega)]

/-! ### Units in a row -/

theorem unitsFrom_succ (first : UnitAddr) (length : Nat) :
    unitsFrom first (length + 1) = first :: unitsFrom (first + 1) length := by
  have next : ∀ step, first + BitVec.ofNat 22 (step + 1) = first + 1 + BitVec.ofNat 22 step := fun step => by
    rw [BitVec.add_assoc]
    exact congrArg (first + ·) (BitVec.eq_of_toNat_eq (by simp [Nat.add_comm]))
  simp only [unitsFrom, List.range_succ_eq_map, List.map_cons, List.map_map]
  refine congrArg₂ List.cons ?_ (List.map_congr_left fun step _ => next step)
  simp

theorem banks_writeUnits : ∀ (units : List UnitAddr) (data : List Byte) (s : State), (s.writeUnits units data).banks = s.banks
  | [], _, _ => rfl
  | _ :: rest, data, _ => (banks_writeUnits rest (data.drop 16) _).trans (banks_writeUnit ..)

/-- Where a row of units begins; a row that has ended begins nowhere. -/
def BeginsAt (first : UnitAddr) (start length : Nat) : Prop := start + length ≤ 4194304 ∧ (length = 0 ∨ first.toNat = start)

theorem BeginsAt.next {first : UnitAddr} {start length : Nat} (h : BeginsAt first start (length + 1)) :
    BeginsAt (first + 1) (start + 1) length := by
  obtain ⟨fits, begins⟩ := h
  have begins := begins.resolve_left (Nat.succ_ne_zero _)
  refine ⟨by omega, ?_⟩
  by_cases ends : length = 0
  · exact .inl ends
  · right
    rw [BitVec.toNat_add]
    change (first.toNat + 1) % 4194304 = _
    omega

theorem BeginsAt.first {first : UnitAddr} {start length : Nat} (h : BeginsAt first start (length + 1)) :
    first.toNat = start := h.2.resolve_left (Nat.succ_ne_zero _)

theorem byteOf_writeUnits (address : Nat) : ∀ (length : Nat) (first : UnitAddr) (start : Nat) (data : List Byte) (s : State),
    s.MemoryWf → BeginsAt first start length → data.length = 16 * length →
      (s.writeUnits (unitsFrom first length) data).byteOf address =
        if start ≤ address / 16 ∧ address / 16 < start + length then data.getD (address - start * 16) 0 else s.byteOf address
  | 0, _, start, _, _, _, _, _ => by rw [if_neg (by omega)]; rfl
  | length + 1, first, start, data, s, wf, begins, size => by
    have whole : (data.take 16).length = 16 := by rw [List.length_take]; omega
    have rest := byteOf_writeUnits address length (first + 1) (start + 1) (data.drop 16) (s.writeUnit first (data.take 16))
      (memoryWf_writeUnit wf ..) begins.next (by rw [List.length_drop]; omega)
    have head := begins.first
    rw [byteOf_writeUnit wf first whole] at rest
    rw [unitsFrom_succ]
    refine rest.trans ?_
    by_cases later : start + 1 ≤ address / 16 ∧ address / 16 < start + 1 + length
    · have place : address - start * 16 = 16 + (address - (start + 1) * 16) := by omega
      rw [if_pos later, if_pos (by omega), place]
      simp only [List.getD_eq_getElem?_getD, List.getElem?_drop]
    · rw [if_neg later]
      by_cases here : address / 16 = first.toNat
      · have place : address - start * 16 = address % 16 := by omega
        have low : address % 16 < 16 := Nat.mod_lt _ (by omega)
        rw [if_pos here, if_pos (by omega), place]
        simp only [List.getD_eq_getElem?_getD, List.getElem?_take, low, if_true]
      · rw [if_neg here, if_neg (by omega)]

theorem writtenHealth_written (m : Mgmt) {unit other : UnitAddr} (h : other ≠ unit) :
    (m.written unit).writtenHealth other = m.writtenHealth other := by
  unfold Mgmt.written
  split
  · next target kind armed =>
    split
    · next own =>
      subst own
      simp only [Mgmt.writtenHealth, armed, Ne.symm h, if_false]
    · rfl
  · rfl

/-- The unit lies in a row of units. -/
abbrev InRow (start length : Nat) (unit : UnitAddr) : Prop := start ≤ unit.toNat ∧ unit.toNat < start + length

theorem unitHealth_writeUnits (unit : UnitAddr) : ∀ (length : Nat) (first : UnitAddr) (start : Nat) (data : List Byte) (s : State),
    s.MemoryWf → BeginsAt first start length →
      (s.writeUnits (unitsFrom first length) data).unitHealth unit =
        if InRow start length unit then s.mgmt.writtenHealth unit else s.unitHealth unit
  | 0, _, start, _, _, _, _ => by rw [if_neg (by rw [InRow]; omega)]; rfl
  | length + 1, first, start, data, s, wf, begins => by
    have rest := unitHealth_writeUnits unit length (first + 1) (start + 1) (data.drop 16) (s.writeUnit first (data.take 16))
      (memoryWf_writeUnit wf ..) begins.next
    have head := begins.first
    rw [mgmt_writeUnit, unitHealth_writeUnit wf] at rest
    rw [unitsFrom_succ]
    refine rest.trans ?_
    by_cases here : unit = first
    · subst here
      rw [if_neg (by rw [InRow]; omega), if_pos rfl, if_pos (by rw [InRow]; omega)]
    · have away : unit.toNat ≠ start := fun e => here (BitVec.eq_of_toNat_eq (e.trans head.symm))
      rw [if_neg here, writtenHealth_written _ here]
      exact if_congr (by rw [InRow, InRow]; omega) rfl rfl

/-- The arm after the writes of a row of units. -/
def Mgmt.writtenRow (m : Mgmt) (start length : Nat) : Mgmt :=
  match m.arm with
  | some (armed, _) => if InRow start length armed then { m with arm := none, consumed := true } else m
  | none => m

theorem mgmt_writeUnits : ∀ (length : Nat) (first : UnitAddr) (start : Nat) (data : List Byte) (s : State),
    BeginsAt first start length → (s.writeUnits (unitsFrom first length) data).mgmt = s.mgmt.writtenRow start length
  | 0, _, start, _, s, _ => by
    unfold Mgmt.writtenRow
    split
    · rw [if_neg (by rw [InRow]; omega)]; rfl
    · rfl
  | length + 1, first, start, data, s, begins => by
    have rest := mgmt_writeUnits length (first + 1) (start + 1) (data.drop 16) (s.writeUnit first (data.take 16)) begins.next
    have head := begins.first
    rw [mgmt_writeUnit] at rest
    rw [unitsFrom_succ]
    refine rest.trans ?_
    unfold Mgmt.writtenRow Mgmt.written
    cases armed : s.mgmt.arm with
    | none => simp only [armed]
    | some arm =>
      obtain ⟨target, kind⟩ := arm
      by_cases here : target = first
      · have inside : InRow start (length + 1) target := by rw [InRow, here]; omega
        simp only [here, if_true] at inside ⊢
        rw [if_pos inside]
      · have away : target.toNat ≠ start := fun e => here (BitVec.eq_of_toNat_eq (e.trans head.symm))
        simp only [here, if_false, armed]
        exact if_congr (by rw [InRow, InRow]; omega) rfl rfl

end Sys2Proof.Machine
end

section
/-! The completions of WRITE, WRITE_MASKED and ATOMIC (R115, R116, R124, R125). -/

namespace Sys2Proof.Machine

theorem serve_of_write {s : State} {b : BankId} {entry : Entry} {scrub log : Bool} {data : List Byte}
    (op : entry.op = .write data) : s.serve b entry scrub log =
      { state := s.writeUnits (unitsFrom entry.unit entry.length) data, status := .ok } := by
  simp only [State.serve, op, State.serveWrite]

theorem byteOf_congr {s t : State} (h : t.memory = s.memory) (address : Nat) : t.byteOf address = s.byteOf address := by
  rw [State.byteOf, h]

theorem unitHealth_congr {s t : State} (h : t.health = s.health) (unit : UnitAddr) : t.unitHealth unit = s.unitHealth unit := by
  rw [State.unitHealth, h]; rfl

theorem inUnits_unit (first unit : UnitAddr) (length : Nat) :
    inUnits first length (unit.toNat * 16) ↔ InRow first.toNat length unit := by
  have place : unit.toNat * 16 / Config.unitBytes = unit.toNat := Nat.mul_div_cancel _ (by decide)
  rw [inUnits, place]

/-- Settles O35: the units written in a row, and what every completion does. -/
theorem writeServiceStoresItsUnits : Obligations.WriteServiceStoresItsUnits := by
  intro s b entry scrub log data settled wf served op size fits
  have run := exec_completionOf settled served
  rw [op] at run
  have done := completion_completeEntry s b entry scrub log
  rw [serve_of_write op] at done
  have begins : BeginsAt entry.unit entry.unit.toNat entry.length := ⟨fits, .inr rfl⟩
  refine ⟨_, run, fun address => ?_, fun unit => ?_, done.mgmt.trans ?_, done.answered, done.idle, fun c => ?_, done.faults⟩
  · rw [byteOf_congr done.calm.memory, byteOf_writeUnits address _ _ _ data s wf begins size]
    rfl
  · rw [unitHealth_congr done.calm.health, unitHealth_writeUnits unit _ _ _ data s wf begins,
      if_congr (inUnits_unit entry.unit unit entry.length) rfl rfl]
    rfl
  · rw [mgmt_writeUnits _ _ _ data s begins]
    unfold Mgmt.writtenRow
    cases s.mgmt.arm with
    | none => rfl
    | some arm => exact (if_congr (inUnits_unit entry.unit arm.1 entry.length) rfl rfl).symm
  · rw [done.corrected]
    unfold State.bank
    rw [banks_writeUnits]

/-! ### Read-modify-write services -/

theorem length_readBytes (memory : List Host.Cell) : ∀ (count address : Nat), (readBytes memory address count).length = count
  | 0, _ => rfl
  | count + 1, address => congrArg (· + 1) (length_readBytes memory count (address + 1))

theorem length_unitData (s : State) (unit : UnitAddr) : (s.unitData unit).length = 16 := length_readBytes ..

/-- A read-modify-write of an UNCORRECTABLE unit changes nothing (R116). -/
theorem serveModify_of_uncorrectable {s : State} {entry : Entry} (h : s.unitHealth entry.unit = .uncorrectable) (b : BankId)
    (log : Bool) (change : List Byte → List Byte × Bool × List Byte) : s.serveModify b entry log change =
      { state := s, status := .poisoned, offers := [dataOffer .poisoned entry entry.unit] } := by
  unfold State.serveModify
  rw [h]

/-- The state whose unit a read-modify-write stores: a CORRECTABLE unit has been counted (R117). -/
def State.modifyBase (s : State) (b : BankId) (unit : UnitAddr) : State :=
  if s.unitHealth unit = .correctable then s.countCorrected b else s

/-- A read-modify-write of any other unit stores the whole unit (R116). -/
theorem serveModify_of_sound {s : State} {entry : Entry} (h : s.unitHealth entry.unit ≠ .uncorrectable) (b : BankId)
    (log : Bool) (change : List Byte → List Byte × Bool × List Byte) : s.serveModify b entry log change =
      let changed := change (s.unitData entry.unit)
      { state := (s.modifyBase b entry.unit).writeUnit entry.unit changed.1, status := .ok, compareEqual := changed.2.1,
        payload := changed.2.2,
        offers := if s.unitHealth entry.unit = .correctable then correctedOffers log entry entry.unit else [] } := by
  unfold State.serveModify State.modifyBase
  cases health : s.unitHealth entry.unit with
  | clean => rfl
  | correctable => rfl
  | uncorrectable => exact absurd health h

theorem modifyBase_keeps (s : State) (b : BankId) (unit : UnitAddr) :
    (s.modifyBase b unit).memory = s.memory ∧ (s.modifyBase b unit).health = s.health ∧
      (s.modifyBase b unit).mgmt = s.mgmt := by
  unfold State.modifyBase
  split
  · exact ⟨rfl, rfl, rfl⟩
  · exact ⟨rfl, rfl, rfl⟩

theorem corrected_modifyBase (s : State) (b : BankId) (unit : UnitAddr) (c : BankId) :
    ((s.modifyBase b unit).bank c).corrected =
      if c = b ∧ s.unitHealth unit = .correctable then count16 (s.bank c).corrected else (s.bank c).corrected := by
  unfold State.modifyBase
  by_cases bad : s.unitHealth unit = .correctable
  · rw [if_pos bad, State.countCorrected, State.bank_modBank]
    by_cases same : b = c
    · subst same; simp [bad]
    · simp [same, Ne.symm same]
  · simp [bad]

section
variable {s t : State} {b : BankId} {entry : Entry} {log : Bool}

/-- What the completion of a read-modify-write of a unit that is not UNCORRECTABLE stores, counts and records. -/
theorem modified_of_completion (wf : s.MemoryWf) {data payload : List Byte} {equal : Bool} (whole : data.length = 16)
    (done : Completion s b entry
      { state := (s.modifyBase b entry.unit).writeUnit entry.unit data, status := .ok, compareEqual := equal,
        payload := payload,
        offers := if s.unitHealth entry.unit = .correctable then correctedOffers log entry entry.unit else [] } t) :
    (∀ address, t.byteOf address =
        if address / 16 = entry.unit.toNat then data.getD (address % 16) 0 else s.byteOf address) ∧
      (∀ unit, t.unitHealth unit = if unit = entry.unit then s.mgmt.writtenHealth unit else s.unitHealth unit) ∧
      t.mgmt = s.mgmt.written entry.unit ∧
      (∀ c, (t.bank c).corrected = if c = b ∧ s.unitHealth entry.unit = .correctable then count16 (s.bank c).corrected
        else (s.bank c).corrected) ∧
      (s.ReportsOnlyData entry → t.faults = if s.unitHealth entry.unit = .correctable ∧ log = true then
        (s.offer (dataOffer .corrected entry entry.unit)).faults else s.faults) := by
  obtain ⟨memory, health, mgmt⟩ := modifyBase_keeps s b entry.unit
  have base : (s.modifyBase b entry.unit).MemoryWf := State.memoryWf_congr wf memory health
  refine ⟨fun address => ?_, fun unit => ?_, ?_, fun c => ?_, fun only => ?_⟩
  · rw [byteOf_congr done.calm.memory, byteOf_writeUnit base entry.unit whole, byteOf_congr memory]
  · rw [unitHealth_congr done.calm.health, unitHealth_writeUnit base, mgmt, unitHealth_congr health]
    split
    · next same => rw [same]
    · rfl
  · rw [done.mgmt, mgmt_writeUnit, mgmt]
  · have banks : ((s.modifyBase b entry.unit).writeUnit entry.unit data).bank c = (s.modifyBase b entry.unit).bank c := by
      unfold State.bank; rw [banks_writeUnit]
    rw [done.corrected, ← corrected_modifyBase]
    exact congrArg Bank.corrected banks
  · rw [done.faults only]
    by_cases counted : s.unitHealth entry.unit = .correctable
    · cases log <;> simp [counted, correctedOffers]
    · simp [counted]

/-- What the completion of a read-modify-write of an UNCORRECTABLE unit leaves (R116). -/
theorem poisoned_of_completion (done : Completion s b entry
    { state := s, status := .poisoned, offers := [dataOffer .poisoned entry entry.unit] } t) :
    t.memory = s.memory ∧ t.health = s.health ∧ t.mgmt = s.mgmt ∧ (∀ c, (t.bank c).corrected = (s.bank c).corrected) ∧
      Answered s t entry { tag := entry.tag, status := .poisoned } ∧
      (s.ReportsOnlyData entry → t.faults = (s.offer (dataOffer .poisoned entry entry.unit)).faults) :=
  ⟨done.calm.memory, done.calm.health, done.mgmt, done.corrected, done.answered, done.faults⟩

end

theorem length_mergeBytes (mask : BitVec 16) (data old : List Byte) : (mergeBytes mask data old).length = 16 := by
  simp [mergeBytes]

theorem length_leBytes : ∀ count value, (leBytes count value).length = count
  | 0, _ => rfl
  | count + 1, value => congrArg (· + 1) (length_leBytes count (value / 256))

theorem length_replaceHalf (high : Bool) (value : BitVec 64) {old : List Byte} (h : old.length = 16) :
    (replaceHalf high value old).length = 16 := by
  cases high <;> simp [replaceHalf, length_leBytes, h]

/-- The compare-equal flag of an ATOMIC (R125). -/
theorem atomicResult_equal (op : AtomicOp) (old operand second : BitVec 64) :
    (atomicResult op old operand second).2 = decide (op = .compareSwap ∧ old = operand) := by
  cases op with
  | compareSwap => by_cases same : old = operand <;> simp [atomicResult, same]
  | _ => simp [atomicResult]

/-- The new value of an ATOMIC (R124). -/
theorem atomicResult_new (op : AtomicOp) (old operand second : BitVec 64) : (atomicResult op old operand second).1 =
    match op with
    | .fetchAdd => old + operand
    | .swap => operand
    | .compareSwap => if old = operand then second else old
    | .fetchOr => old ||| operand
    | .fetchAnd => old &&& operand := by
  cases op with
  | compareSwap => by_cases same : old = operand <;> simp [atomicResult, same]
  | _ => rfl

theorem serve_of_writeMasked {s : State} {b : BankId} {entry : Entry} {scrub log : Bool} {data : List Byte}
    {mask : BitVec 16} (op : entry.op = .writeMasked data mask) :
    s.serve b entry scrub log = s.serveModify b entry log (maskedChange data mask) := by
  simp only [State.serve, op]

theorem serve_of_atomic {s : State} {b : BankId} {entry : Entry} {scrub log high : Bool} {kind : AtomicOp}
    {operand second : BitVec 64} (op : entry.op = .atomic kind high operand second) :
    s.serve b entry scrub log = s.serveModify b entry log (atomicChange kind high operand second) := by
  simp only [State.serve, op]

theorem atomicChange_eq (op : AtomicOp) (high : Bool) (operand second : BitVec 64) (old : List Byte) :
    atomicChange op high operand second old =
      (replaceHalf high (atomicResult op (halfValue high old) operand second).1 old,
        decide (op = .compareSwap ∧ halfValue high old = operand), leBytes 8 (halfValue high old).toNat) := by
  rw [← atomicResult_equal op (halfValue high old) operand second]
  rfl

/-- Settles O36: both kinds are the read-modify-write of one unit, each with its own change. -/
theorem modifyServicesStoreOneUnit : Obligations.ModifyServicesStoreOneUnit := by
  intro s b entry scrub log settled wf served
  have run := exec_completionOf settled served
  have done := completion_completeEntry s b entry scrub log
  refine ⟨fun data mask op => ?masked, fun kind high operand second op => ?atomic⟩
  case masked =>
    rw [op] at run
    rw [serve_of_writeMasked op] at done
    refine ⟨fun bad => ?_, fun sound => ?_⟩
    · rw [serveModify_of_uncorrectable bad] at done
      exact ⟨_, run, poisoned_of_completion done⟩
    · rw [serveModify_of_sound sound] at done
      exact ⟨_, run, modified_of_completion wf (length_mergeBytes mask data _) done, done.answered⟩
  case atomic =>
    rw [op] at run
    rw [serve_of_atomic op] at done
    refine ⟨fun bad => ?_, fun sound => ?_⟩
    · rw [serveModify_of_uncorrectable bad] at done
      exact ⟨_, run, poisoned_of_completion done⟩
    · rw [serveModify_of_sound sound, atomicChange_eq, atomicResult_new] at done
      exact ⟨_, run, modified_of_completion wf (length_replaceHalf high _ (length_unitData s entry.unit)) done, done.answered⟩

end Sys2Proof.Machine
end

section
/-! Malformed parcels and DATA parcels that arrive (R28, R36 to R39, R41). -/

namespace Sys2Proof.Machine

/-! ### Changes of a link -/

/-- A change of a link is what it makes of the link that the port has. -/
theorem modLink_congr {s : State} {p : PortId} {f g : Link → Link} (h : f (s.link p) = g (s.link p)) :
    s.modLink p f = s.modLink p g := by
  unfold State.modLink
  rw [h]

/-- A NAK that falls due waits to be sent, unless one is pending (R41). -/
theorem queueNak_eq (link : Link) : queueNak link =
    { link with nakPending := true, nakWaiting := link.nakWaiting || !link.nakPending } := by
  unfold queueNak
  split
  · next pending => rw [pending, Bool.not_true, Bool.or_false, ← pending]
  · next idle => rw [Bool.eq_false_iff.2 idle, Bool.not_false, Bool.or_true]

/-- Settles O10, by the link state. -/
theorem malformedParcelCountedAndNaked : Obligations.MalformedParcelCountedAndNaked := by
  intro s p frame settled bad
  have run : exec (.malformedParcel p frame) s = .next (s.modLink p takeMalformed) := by
    rw [exec, execMalformedParcel, if_pos bad, settle_of_settled settled]
  rw [run]
  refine congrArg _ (modLink_congr ?_)
  cases state : (s.link p).state <;> simp [takeMalformed, countsErrors, queueNak_eq, state]

/-! ### The ack field -/

/-- What the ack field of a parcel changes of the link (R39). -/
theorem removeAcked_eq (link : Link) (ack : Seq) : removeAcked link ack =
    { link with
      replay := (removeAcked link ack).replay, replayAttempts := (removeAcked link ack).replayAttempts,
      ackTimer := (removeAcked link ack).ackTimer, retransmit := (removeAcked link ack).retransmit } := by
  unfold removeAcked
  dsimp only
  split <;> rfl

/-- What the ack field of a parcel leaves of the state of the link, its receive side and the FIFO (R39). -/
structure AckKept (p : PortId) (s t : State) : Prop where
  state : (t.link p).state = (s.link p).state
  recvSeq : (t.link p).recvSeq = (s.link p).recvSeq
  fifo : (t.port p).fifo = (s.port p).fifo

theorem ackKept_processAck (s : State) (p : PortId) (ack : Seq) : AckKept p s (s.processAck p ack) := by
  unfold State.processAck
  split
  · have link : (s.modLink p fun link => removeAcked link ack).link p = removeAcked (s.link p) ack := State.link_modLink_same ..
    refine ⟨?_, ?_, ?_⟩
    · rw [link, removeAcked_eq]
    · rw [link, removeAcked_eq]
    · rw [State.port_modLink, if_pos rfl]
  · have told := reports_offer s { code := .badAck, port := some p }
    exact ⟨by rw [told.link], by rw [told.link], by rw [told.ports p]⟩

/-! ### DATA parcels -/

/-- A DATA parcel of a length that suits it, at a settled part (R36). -/
theorem exec_receiveData {s : State} (settled : s.Settled) {body : List Byte} (filled : 1 ≤ body.length)
    (short : body.length ≤ 128) (p : PortId) (seq ack : Seq) : exec (.receiveData p seq ack body) s =
      .next (if (s.link p).state = .active then (s.processAck p ack).classify p seq body else s) := by
  have suits : bodySuits .data body.length = true := by simp [bodySuits, filled, Config.maxBody, short]
  simp only [exec, execReceiveData, settle_of_settled settled, suits, Bool.not_true, Bool.false_eq_true, if_false]

/-- Settles O12: the ack field leaves the receive sequence and the FIFO by which the parcel is classed. -/
theorem dataParcelClassedBySequence : Obligations.DataParcelClassedBySequence := by
  intro s p seq ack body settled filled short
  have kept := ackKept_processAck s p ack
  rw [exec_receiveData settled filled short]
  dsimp only
  refine ⟨fun active zero room => ?_, fun active zero full => ?_, fun active one near => ?_, fun active far => ?_,
    fun idle => by rw [if_neg idle]⟩
  · rw [if_pos active, State.classify, kept.recvSeq, if_pos zero, State.acceptExpected, kept.fifo, if_pos (by exact room)]
  · rw [if_pos active, State.classify, kept.recvSeq, if_pos zero, State.acceptExpected, kept.fifo,
      if_neg (by exact Nat.not_lt.2 full)]
  · rw [if_pos active, State.classify, kept.recvSeq, if_neg (by omega), if_pos near]
  · rw [if_pos active, State.classify, kept.recvSeq, if_neg (by omega), if_neg (by omega)]
    exact congrArg _ (modLink_congr (queueNak_eq _))

end Sys2Proof.Machine
end

section
/-! ACK and NAK: the parcels acknowledged, and replay or retraining (R33, R39, R40, R44). -/

namespace Sys2Proof.Machine

/-! ### The window test and the removal -/

theorem ackInWindow_iff (link : Link) (ack : Seq) : ackInWindow link ack = true ↔
    distance (oldestUnacked link) ack ≤ distance (oldestUnacked link) link.sendSeq := decide_eq_true_iff

/-- The retransmission point after a removal (R39). -/
theorem movePoint_eq (remaining : List SentData) (point : Option Seq) : movePoint remaining point =
    point.bind fun seq => if remaining.any fun sent => sent.seq = seq then some seq else remaining.head?.map SentData.seq := by
  cases point <;> rfl

/-- The ack field of a parcel that passes the window test (R39). -/
theorem processAck_of_window {s : State} {p : PortId} {ack : Seq} (h : ackInWindow (s.link p) ack = true) :
    s.processAck p ack = s.modLink p fun link => removeAcked link ack := if_pos h

/-- The ack field of a parcel that fails the window test (R39). -/
theorem processAck_of_bad {s : State} {p : PortId} {ack : Seq} (h : ackInWindow (s.link p) ack = false) :
    s.processAck p ack = s.offer { code := .badAck, port := some p } := if_neg (by simp [h])

theorem link_removed (s : State) (p : PortId) (ack : Seq) :
    (s.modLink p fun link => removeAcked link ack).link p = removeAcked (s.link p) ack := State.link_modLink_same ..

/-! ### The rows -/

theorem exec_receiveAck {s : State} (settled : s.Settled) (p : PortId) (ack : Seq) : exec (.receiveAck p ack) s =
    .next (if (s.link p).state = .active then s.processAck p ack else s) := by
  rw [exec, execReceiveAck, settle_of_settled settled]

theorem exec_receiveNak {s : State} (settled : s.Settled) (p : PortId) (ack : Seq) : exec (.receiveNak p ack) s =
    .next (if (s.link p).state = .active then
      if ackInWindow (s.link p) ack then s.replayFrom p ack else s.offer { code := .badAck, port := some p }
    else s) := by
  rw [exec, execReceiveNak, settle_of_settled settled]

/-- A NAK that leaves no parcel acknowledges alone (R40). -/
theorem replayFrom_of_empty {s : State} {p : PortId} {ack : Seq} (h : (removeAcked (s.link p) ack).replay = []) :
    s.replayFrom p ack = s.modLink p fun link => removeAcked link ack := by
  unfold State.replayFrom
  dsimp only
  rw [link_removed, h]
  rfl

/-- A NAK that leaves parcels makes a replay due (R40). -/
theorem replayFrom_of_remaining {s : State} {p : PortId} {ack : Seq} (h : (removeAcked (s.link p) ack).replay ≠ []) :
    s.replayFrom p ack = (s.modLink p fun link => removeAcked link ack).replayDue p := by
  unfold State.replayFrom
  dsimp only
  rw [link_removed, if_neg (by simpa using h)]

/-- A replay that falls due before the limit is performed (R44). -/
theorem replayDue_of_below {s : State} {p : PortId} (h : (s.link p).replayAttempts < 4) :
    s.replayDue p = s.modLink p performReplay := if_pos h

/-- At the limit retraining takes the place of the replay (R44). -/
theorem replayDue_of_limit {s : State} {p : PortId} (h : 4 ≤ (s.link p).replayAttempts) :
    s.replayDue p = s.enterRetrain p .retrainLocal := if_neg (Nat.not_lt.2 h)

/-- The link that enters RETRAIN (R33). -/
theorem link_enterRetrain (s : State) (p : PortId) (cause : FaultCode) :
    (s.enterRetrain p cause).link p = beginRetrain (s.link p) := by
  rw [State.enterRetrain, (reports_offer ..).link, State.link_modLink_same]

/-- Settles O11: the window test first, then what the removal leaves and how often it was replayed. -/
theorem ackAndNakAcknowledgeAndReplay : Obligations.AckAndNakAcknowledgeAndReplay := by
  refine ⟨fun s p ack settled => ?_, fun s p ack settled active => ?_, fun s p ack settled idle => ?_⟩
  · rw [exec_receiveAck settled]
    refine ⟨fun active window => ?_, fun active beyond => ?_, fun idle => by rw [if_neg idle]⟩
    · rw [if_pos active, processAck_of_window ((ackInWindow_iff ..).2 window)]
      refine ⟨_, rfl, onlyLink_modLink .., ?_⟩
      rw [State.link_modLink_same, removeAcked, movePoint_eq]
      rfl
    · rw [if_pos active, processAck_of_bad (decide_eq_false (Nat.not_le.2 beyond))]
  · rw [exec_receiveNak settled, if_pos active]
    refine ⟨fun bad => by simp [bad], fun window empty => ?_, fun window remain below => ?_, fun window remain limit => ?_⟩
    · rw [if_pos window, replayFrom_of_empty empty]
      exact ⟨_, rfl, onlyLink_modLink .., link_removed ..⟩
    · rw [if_pos window, replayFrom_of_remaining remain, replayDue_of_below (by rw [link_removed]; exact below)]
      refine ⟨_, rfl, onlyLink_trans (onlyLink_modLink ..) (onlyLink_modLink ..), ?_⟩
      rw [State.link_modLink_same, link_removed]
      rfl
    · rw [if_pos window, replayFrom_of_remaining remain, replayDue_of_limit (by rw [link_removed]; exact limit)]
      have calm := (calm_modLink s p fun link => removeAcked link ack).trans (calm_enterRetrain _ p .retrainLocal)
      have entered := (link_enterRetrain (s.modLink p fun link => removeAcked link ack) p .retrainLocal).trans
        (congrArg beginRetrain (link_removed s p ack))
      refine ⟨_, rfl, ?_, ?_, ?_, ?_, ?_, calm.memory, calm.health⟩
      · rw [entered]; rfl
      · rw [entered]; rfl
      · rw [entered, removeAcked_eq]; rfl
      · rw [entered, removeAcked_eq]; rfl
      · rw [entered]; rfl
  · rw [exec_receiveNak settled, if_neg idle]

end Sys2Proof.Machine
end

section
/-! Retraining requests and TRAIN_ACK (R31, R33, R34, R36). -/

namespace Sys2Proof.Machine

/-! ### The end of training -/

/-- While a handshake flag is clear training goes on (R31, R34). -/
theorem trainingTest_of_open {s : State} {p : PortId} (h : ((s.link p).requestAnswered && (s.link p).answerReceived) = false) :
    s.trainingTest p = s := if_neg (by rw [h]; simp)

/-- Fresh training completes where both handshake flags are set (R31). -/
theorem trainingTest_of_training {s : State} {p : PortId} (training : (s.link p).state = .training)
    (asked : (s.link p).requestAnswered = true) (answered : (s.link p).answerReceived = true) :
    s.trainingTest p = s.modLink p completeFresh := by
  unfold State.trainingTest
  dsimp only
  rw [asked, answered, training]
  rfl

/-- Retraining completes where both handshake flags are set; the host expected sequence acknowledges (R34). -/
theorem trainingTest_of_retrain {s : State} {p : PortId} {ack : Seq} (retrain : (s.link p).state = .retrain)
    (asked : (s.link p).requestAnswered = true) (answered : (s.link p).answerReceived = true)
    (expected : (s.link p).hostExpected = some ack) : s.trainingTest p =
      if ackInWindow (s.link p) ack then s.modLink p fun link => completeRetrain (removeAcked link ack)
      else (s.modLink p completeRetrain).offer { code := .badAck, port := some p } := by
  unfold State.trainingTest
  dsimp only
  rw [asked, answered, retrain, expected]
  rfl

/-! ### TRAIN_REQ with fresh 0 -/

/-- The link that has answered a TRAIN_REQ with fresh 0 (R34). -/
def answerRetrain (ack : Seq) (link : Link) : Link :=
  { link with trainAckWaiting := true, requestAnswered := true, hostExpected := some ack }

theorem acceptRetrainRequest_eq (s : State) (p : PortId) (ack : Seq) :
    s.acceptRetrainRequest p ack = (s.modLink p (answerRetrain ack)).trainingTest p := rfl

theorem exec_receiveRetrainReq {s : State} (settled : s.Settled) (p : PortId) (ack : Seq) :
    exec (.receiveRetrainReq p ack) s = .next (s.retrainRequest p ack) := by
  rw [exec, execReceiveRetrainReq, settle_of_settled settled]

/-- While the engine's own request is not answered, the host's is answered alone (R34). -/
theorem acceptRetrainRequest_of_waiting {s : State} {p : PortId} (h : (s.link p).answerReceived = false) (ack : Seq) :
    s.acceptRetrainRequest p ack = s.modLink p (answerRetrain ack) := by
  refine trainingTest_of_open (s := s.modLink p (answerRetrain ack)) ?_
  rw [State.link_modLink_same]
  simp [answerRetrain, h]

/-- The removal of acknowledged parcels looks at the sequence numbers and the replay buffer alone (R39). -/
theorem removeAcked_answerRetrain (link : Link) (ack seq : Seq) :
    removeAcked (answerRetrain seq link) ack = answerRetrain seq (removeAcked link ack) := by
  change (if distance (oldestUnacked link) ack = 0 then answerRetrain seq link else _) = _
  unfold removeAcked
  dsimp only
  split <;> rfl

/-- Settles O14: entry to RETRAIN clears the flag of the engine's own answer, so the request that caused it is answered alone. -/
theorem retrainRequestAnswered : Obligations.RetrainRequestAnswered := by
  intro s p ack settled
  rw [exec_receiveRetrainReq settled]
  refine ⟨fun active => ?_, fun retrain waits => ?_, fun retrain received => ?_, fun other => ?_⟩
  · have entered := link_enterRetrain s p .retrainRemote
    have run : s.retrainRequest p ack = (s.enterRetrain p .retrainRemote).modLink p (answerRetrain ack) := by
      unfold State.retrainRequest
      rw [active]
      exact acceptRetrainRequest_of_waiting (by rw [entered]; rfl) ack
    have calm := (calm_enterRetrain s p .retrainRemote).trans (calm_modLink _ p (answerRetrain ack))
    rw [run]
    refine ⟨_, rfl, ?_, calm.memory, calm.health⟩
    rw [State.link_modLink_same, entered]
    rfl
  · have run : s.retrainRequest p ack = s.modLink p (answerRetrain ack) := by
      unfold State.retrainRequest
      rw [retrain]
      exact acceptRetrainRequest_of_waiting waits ack
    rw [run]
    exact ⟨_, rfl, onlyLink_modLink .., State.link_modLink_same ..⟩
  · have link : (s.modLink p (answerRetrain ack)).link p = answerRetrain ack (s.link p) := State.link_modLink_same ..
    have run : s.retrainRequest p ack = if ackInWindow (s.link p) ack then
        (s.modLink p (answerRetrain ack)).modLink p fun link => completeRetrain (removeAcked link ack)
        else ((s.modLink p (answerRetrain ack)).modLink p completeRetrain).offer { code := .badAck, port := some p } := by
      unfold State.retrainRequest
      rw [retrain]
      refine (trainingTest_of_retrain (s := s.modLink p (answerRetrain ack)) (ack := ack) ?_ ?_ ?_ ?_).trans ?_
      all_goals rw [link]
      · exact retrain
      · rfl
      · exact received
      · rfl
      · rfl
    rw [run]
    split
    · have done : ((s.modLink p (answerRetrain ack)).modLink p fun link => completeRetrain (removeAcked link ack)).link p =
          completeRetrain (answerRetrain ack (removeAcked (s.link p) ack)) := by
        rw [State.link_modLink_same, link, removeAcked_answerRetrain]
      exact ⟨_, rfl, by rw [done]; rfl, by rw [done]; rfl, by rw [done]; rfl⟩
    · have done : (((s.modLink p (answerRetrain ack)).modLink p completeRetrain).offer
          { code := .badAck, port := some p }).link p = completeRetrain (answerRetrain ack (s.link p)) := by
        rw [(reports_offer ..).link, State.link_modLink_same, link]
      exact ⟨_, rfl, by rw [done]; rfl, by rw [done]; rfl, by rw [done]; rfl⟩
  · unfold State.retrainRequest
    rcases other with state | state | state <;> rw [state]

/-! ### TRAIN_ACK -/

/-- The link that has received a TRAIN_ACK in RETRAIN (R34). -/
def receiveAnswer (ack : Seq) (link : Link) : Link := { link with answerReceived := true, hostExpected := some ack }

theorem exec_receiveTrainAck {s : State} (settled : s.Settled) (p : PortId) (fresh : Bool) (ack : Seq) :
    exec (.receiveTrainAck p fresh ack) s = .next (s.trainAnswer p fresh ack) := by
  rw [exec, execReceiveTrainAck, settle_of_settled settled]

theorem trainAnswer_of_training {s : State} {p : PortId} (h : (s.link p).state = .training) (ack : Seq) :
    s.trainAnswer p true ack = (s.modLink p fun link => { link with answerReceived := true }).trainingTest p := by
  unfold State.trainAnswer
  rw [h]

theorem trainAnswer_of_retrain {s : State} {p : PortId} (h : (s.link p).state = .retrain) (ack : Seq) :
    s.trainAnswer p false ack = (s.modLink p (receiveAnswer ack)).trainingTest p := by
  unfold State.trainAnswer
  rw [h]
  rfl

theorem removeAcked_receiveAnswer (link : Link) (ack seq : Seq) :
    removeAcked (receiveAnswer seq link) ack = receiveAnswer seq (removeAcked link ack) := by
  change (if distance (oldestUnacked link) ack = 0 then receiveAnswer seq link else _) = _
  unfold removeAcked
  dsimp only
  split <;> rfl

/-- Settles O15: by the link state, and whether the host's own request has been answered. -/
theorem trainAckCompletesTraining : Obligations.TrainAckCompletesTraining := by
  intro s p ack settled
  have fresh : (s.modLink p fun link => { link with answerReceived := true }).link p =
      { s.link p with answerReceived := true } := State.link_modLink_same ..
  have again : (s.modLink p (receiveAnswer ack)).link p = receiveAnswer ack (s.link p) := State.link_modLink_same ..
  refine ⟨fun training asked => ?_, fun training unasked => ?_, fun retrain asked window => ?_, fun retrain unasked => ?_,
    fun fresh other => ?_⟩
  · rw [exec_receiveTrainAck settled, trainAnswer_of_training training,
      trainingTest_of_training (by rw [fresh]; exact training) (by rw [fresh]; exact asked) (by rw [fresh])]
    refine ⟨_, rfl, onlyLink_trans (onlyLink_modLink ..) (onlyLink_modLink ..), ?_⟩
    rw [State.link_modLink_same, fresh]
    rfl
  · rw [exec_receiveTrainAck settled, trainAnswer_of_training training, trainingTest_of_open (by rw [fresh]; simp [unasked])]
    exact ⟨_, rfl, onlyLink_modLink .., fresh⟩
  · rw [exec_receiveTrainAck settled, trainAnswer_of_retrain retrain,
      trainingTest_of_retrain (ack := ack) (by rw [again]; exact retrain) (by rw [again]; exact asked) (by rw [again]; rfl)
        (by rw [again]; rfl), if_pos (by rw [again]; exact window)]
    refine ⟨_, rfl, onlyLink_trans (onlyLink_modLink ..) (onlyLink_modLink ..), ?_⟩
    rw [State.link_modLink_same, again, removeAcked_receiveAnswer, removeAcked_eq]
    rfl
  · rw [exec_receiveTrainAck settled, trainAnswer_of_retrain retrain,
      trainingTest_of_open (by rw [again]; simp [receiveAnswer, unasked])]
    exact ⟨_, rfl, onlyLink_modLink .., again⟩
  · rw [exec_receiveTrainAck settled]
    unfold State.trainAnswer
    rcases other with ⟨state, rfl⟩ | ⟨state, rfl⟩ | state | state | state <;> rw [state]

end Sys2Proof.Machine
end

section
/-! Parcels that are sent: the order of precedence, and the bodies of new DATA (R42, R43, R46 to R48). -/

namespace Sys2Proof.Machine

/-! ### What leaves next -/

/-- The parcel kind is the one that leaves next: the link state permits it, it waits, and nothing of higher precedence does
(R46). -/
def SendsNext (port : Port) : SendKind → Prop
  | .trainAck => port.link.state ∈ [.training, .retrain, .active] ∧ port.link.trainAckWaiting = true
  | .trainReq => port.link.state ∈ [.training, .retrain] ∧ port.link.trainAckWaiting = false ∧
      port.link.trainReqWaiting = true
  | .nak => port.link.state = .active ∧ port.link.trainAckWaiting = false ∧ port.link.nakWaiting = true
  | .retransmit => port.link.state = .active ∧ port.link.trainAckWaiting = false ∧ port.link.nakWaiting = false ∧
      port.link.retransmit ≠ none
  | .newData => port.link.state = .active ∧ port.link.trainAckWaiting = false ∧ port.link.nakWaiting = false ∧
      port.link.retransmit = none ∧ newDataReady port = true
  | .ack => port.link.state = .active ∧ port.link.trainAckWaiting = false ∧ port.link.nakWaiting = false ∧
      port.link.retransmit = none ∧ newDataReady port = false ∧ port.link.ackOwed = true

theorem nextSend_iff (port : Port) (kind : SendKind) : nextSend port = some kind ↔ SendsNext port kind := by
  unfold nextSend
  split
  · next state => cases kind <;> grind [SendsNext]
  · next state => cases kind <;> grind [SendsNext]
  · next state => cases kind <;> grind [SendsNext]
  · next state => cases kind <;> simp [SendsNext, state]
  · next state => cases kind <;> simp [SendsNext, state]

/-- The row of the opcode table that sends a kind of parcel. -/
def sendRow (p : PortId) : SendKind → Instr
  | .trainAck => .sendTrainAck p
  | .trainReq => .sendTrainReq p
  | .nak => .sendNak p
  | .retransmit => .sendRetransmit p
  | .newData => .sendNewData p
  | .ack => .sendAck p

theorem exec_sendRow {s : State} (settled : s.Settled) (p : PortId) (kind : SendKind) :
    exec (sendRow p kind) s = .next (s.sendOf p kind) := by
  have run : exec (sendRow p kind) s = .next (s.settle.sendOf p kind) := by cases kind <;> rfl
  rw [run, settle_of_settled settled]

/-- The kind that leaves next leaves (R47). -/
theorem exec_send {s : State} {p : PortId} {kind : SendKind} (settled : s.Settled) (h : SendsNext (s.port p) kind) :
    exec (sendRow p kind) s = .next (s.sendParcel p kind) := by
  rw [exec_sendRow settled, State.sendOf, if_pos ((nextSend_iff ..).2 h)]

/-- No other kind leaves. -/
theorem exec_unsent {s : State} {p : PortId} (settled : s.Settled) (kinds : List SendKind)
    (h : ∀ kind ∈ kinds, ¬SendsNext (s.port p) kind) : ∀ i ∈ kinds.map (sendRow p), exec i s = .next s := by
  intro i mem
  obtain ⟨kind, listed, rfl⟩ := List.mem_map.1 mem
  rw [exec_sendRow settled, State.sendOf, if_neg fun next => h kind listed ((nextSend_iff ..).1 next)]

/-- The parcel at the retransmission point is the one with its sequence number (R43). -/
theorem pointParcel_of_point {link : Link} {seq : Seq} (h : link.retransmit = some seq) :
    pointParcel link = link.replay.find? fun sent => sent.seq = seq := by
  unfold pointParcel
  rw [h]
  simp only [Option.some.injEq, eq_comm]

/-- Settles O16: what leaves next, and what does not, by the order of precedence. -/
theorem sendsByPrecedence : Obligations.SendsByPrecedence := by
  refine ⟨fun s p settled => ⟨fun state waits => ?_, fun state quiet waits => ?_, fun active quiet waits => ?_,
    fun active quiet calm point ready owed => ?_⟩, fun s p data settled active quiet calm point found => ?_,
    fun s p settled => ?_⟩
  · exact exec_send (kind := .trainAck) settled ⟨by simpa [State.link] using state, waits⟩
  · exact exec_send (kind := .trainReq) settled ⟨by simpa [State.link] using state, quiet, waits⟩
  · exact exec_send (kind := .nak) settled ⟨active, quiet, waits⟩
  · exact exec_send (kind := .ack) settled ⟨active, quiet, calm, point, ready, owed⟩
  · have next : SendsNext (s.port p) .retransmit := ⟨active, quiet, calm, fun absent => by
      rw [State.link, absent] at point; cases point⟩
    refine (exec_send (kind := .retransmit) settled next).trans (congrArg _ (modLink_congr ?_))
    rw [retransmitLink, pointParcel_of_point point, found]
    rfl
  · have unsent := exec_unsent (p := p) settled
    refine ⟨fun waits => unsent [.trainReq, .nak, .retransmit, .newData, .ack] ?_,
      fun active waits => unsent [.retransmit, .newData, .ack] ?_, fun active point => unsent [.newData, .ack] ?_,
      fun active ready => unsent [.ack] ?_ _ (List.mem_singleton_self _),
      fun active => unsent [.trainReq] ?_ _ (List.mem_singleton_self _),
      fun trains => unsent [.nak, .retransmit, .newData, .ack] ?_,
      fun stopped => unsent [.trainAck, .trainReq, .nak, .retransmit, .newData, .ack] ?_⟩
    all_goals unfold State.link at *
    · simp [SendsNext, waits]
    · simp [SendsNext, waits]
    · simp [SendsNext, point]
    · simp [SendsNext, ready]
    · simp [SendsNext, active]
    · rcases trains with state | state <;> simp [SendsNext, state]
    · rcases stopped with state | state <;> simp [SendsNext, state]

/-! ### New DATA -/

theorem newDataReady_iff (port : Port) : newDataReady port = true ↔
    port.link.retransmit = none ∧ port.link.replay.length < Config.replayDepth ∧ (port.egress ≠ [] ∨ port.events ≠ []) := by
  simp [newDataReady, and_assoc]

/-- The first response goes before every event that was not placed before it (R48). -/
theorem eventFirst_of_response {port : Port} {first : QueuedResponse} {rest : List QueuedResponse}
    (h : port.egress = first :: rest) (placed : ∀ event ∈ port.events, first.placed ≤ event.placed) :
    eventFirst port = false := by
  unfold eventFirst
  rw [h]
  cases queued : port.events with
  | nil => rfl
  | cons event others => exact decide_eq_false (Nat.not_lt.2 (placed event (by simp [queued])))

/-- The first event goes before a first response that was placed after it (R48). -/
theorem eventFirst_of_event {port : Port} {first : QueuedEvent} {rest : List QueuedEvent} (h : port.events = first :: rest)
    (placed : ∀ response, port.egress.head? = some response → first.placed < response.placed) : eventFirst port = true := by
  unfold eventFirst
  rw [h]
  cases queued : port.egress with
  | nil => rfl
  | cons response others => exact decide_eq_true (placed response (by simp [queued]))

/-- The link that sends a new DATA parcel, with the replay buffer's emptiness as an equation (R42, R45). -/
theorem newDataLink_eq (body : List Byte) (link : Link) : newDataLink body link =
    { link with
      sendSeq := link.sendSeq + 1, replay := link.replay ++ [{ seq := link.sendSeq, body := body }],
      ackTimer := if link.replay = [] then 0 else link.ackTimer, ackOwed := false,
      sent := some (encodeParcel { kind := .data, seq := link.sendSeq, ack := link.recvSeq, body := body }) } := by
  rw [newDataLink, sendFrame, keepSent, isEmpty_ite]

theorem sendParcel_newData (s : State) (p : PortId) :
    s.sendParcel p .newData = (s.modPort p takeBody).modLink p (newDataLink (nextBody (s.port p))) := rfl

theorem modPort_congr {s : State} {p : PortId} {f g : Port → Port} (h : f (s.port p) = g (s.port p)) :
    s.modPort p f = s.modPort p g := by
  unfold State.modPort
  rw [h]

/-- Settles O17: the body placed first, and the layouts by the kinds of status, detail and event. -/
theorem newDataSendsTheBodyPlacedFirst : Obligations.NewDataSendsTheBodyPlacedFirst := by
  refine ⟨fun s p settled active quiet calm point room =>
    ⟨fun first rest queued placed => ?_, fun first rest queued placed => ?_⟩, ?_, ?_⟩
  · have next : SendsNext (s.port p) .newData :=
      ⟨active, quiet, calm, point, (newDataReady_iff _).2 ⟨point, room, .inl (by simp [queued])⟩⟩
    have response := eventFirst_of_response queued placed
    have taken : takeBody (s.port p) = { s.port p with egress := rest } := by simp [takeBody, response, queued]
    have body : nextBody (s.port p) = responseBody first.response := by simp [nextBody, response, queued]
    refine (exec_send (kind := .newData) settled next).trans (congrArg _ ?_)
    rw [sendParcel_newData, body, modPort_congr (g := fun port => { port with egress := rest }) taken]
    exact modLink_congr (newDataLink_eq ..)
  · have next : SendsNext (s.port p) .newData :=
      ⟨active, quiet, calm, point, (newDataReady_iff _).2 ⟨point, room, .inr (by simp [queued])⟩⟩
    have event := eventFirst_of_event queued placed
    have taken : takeBody (s.port p) = { s.port p with events := rest, eventsLost := false } := by simp [takeBody, event, queued]
    have body : nextBody (s.port p) = eventBody first.event (s.port p).eventsLost := by simp [nextBody, event, queued]
    refine (exec_send (kind := .newData) settled next).trans (congrArg _ ?_)
    rw [sendParcel_newData, body, modPort_congr (g := fun port => { port with events := rest, eventsLost := false }) taken]
    exact modLink_congr (newDataLink_eq ..)
  · intro statuses details response
    have status : statuses.idxOf response.status = statusCode response.status := by cases response.status <;> rfl
    have detail : ∀ d : Detail, details.idxOf d + 1 = detailCode d := by intro d; cases d <;> rfl
    rw [responseBody, status]
    cases response.detail <;> cases response.compareEqual <;> simp [detailByte, detail]
  · intro event lost
    cases event with
    | holdExpired hold => cases lost <;> rfl
    | holdBroken hold reason => cases reason <;> cases lost <;> rfl
    | slotsStale slots => cases lost <;> rfl
    | protocolError tag reason => cases reason <;> cases lost <;> rfl
    | deviceState news => cases news <;> cases lost <;> rfl
    | logAttention => cases lost <;> rfl
    | apertureFreed index =>
      have low : BitVec.ofNat 8 (index.val % 256) = BitVec.ofNat 8 index.val := BitVec.eq_of_toNat_eq (by simp)
      dsimp only
      rw [low]
      cases lost <;> rfl

end Sys2Proof.Machine
end

section
/-! The frame of a parcel and its parse (R27, R28). -/

namespace Sys2Proof.Machine

/-- The bytes of a number spell it, where they are enough (section 1.5). -/
theorem leNat_leBytes : ∀ (count value : Nat), value < 256 ^ count → leNat (leBytes count value) = value
  | 0, value, h => by simp at h; simp [leBytes, leNat, h]
  | count + 1, value, h => by
    have rest : value / 256 < 256 ^ count := Nat.div_lt_of_lt_mul (by rw [Nat.pow_succ, Nat.mul_comm] at h; exact h)
    rw [leBytes, leNat, leNat_leBytes count _ rest, BitVec.toNat_ofNat]
    omega

/-- A type field names the type that it is the code of (Table 2-1). -/
theorem parcelTypeOf_parcelCode (kind : ParcelType) : parcelTypeOf (parcelCode kind) = some kind := by cases kind <;> rfl

theorem parcelCode_lt (kind : ParcelType) : parcelCode kind < 16 := by cases kind <;> decide

/-- No body is longer than that of a DATA parcel (R27). -/
theorem length_of_bodySuits {kind : ParcelType} {length : Nat} (h : bodySuits kind length = true) : length ≤ 128 := by
  unfold bodySuits at h
  split at h
  · exact (of_decide_eq_true h).2
  · have empty := of_decide_eq_true h
    omega

/-- The fields of a header word are those of its parcel (Table 2-1). -/
structure HeaderFields (word : Nat) (parcel : Parcel) : Prop where
  fits : word < 256 ^ 4
  kind : field word 28 4 = parcelCode parcel.kind
  seq : field word 21 7 = parcel.seq.toNat
  ack : field word 14 7 = parcel.ack.toNat
  fresh : field word 13 1 = parcel.fresh.toNat
  length : field word 0 13 = parcel.body.length

theorem headerFields_headerWord {parcel : Parcel} (h : parcel.body.length ≤ 128) : HeaderFields (headerWord parcel) parcel := by
  have code := parcelCode_lt parcel.kind
  have seq := parcel.seq.isLt
  have ack := parcel.ack.isLt
  have fresh : parcel.fresh.toNat < 2 := Bool.toNat_lt _
  unfold headerWord
  refine ⟨by omega, ?_, ?_, ?_, ?_, ?_⟩ <;> (simp only [field]; omega)

/-- What the CRC of a frame covers: header and body (R28). -/
def coveredBytes (parcel : Parcel) : List Byte := leBytes 4 (headerWord parcel) ++ parcel.body

theorem encodeParcel_eq (parcel : Parcel) :
    encodeParcel parcel = coveredBytes parcel ++ leBytes 4 (crc (coveredBytes parcel)).toNat := rfl

theorem length_coveredBytes (parcel : Parcel) : (coveredBytes parcel).length = 4 + parcel.body.length := by
  rw [coveredBytes, List.length_append, length_leBytes]

theorem length_encodeParcel (parcel : Parcel) : (encodeParcel parcel).length = 8 + parcel.body.length := by
  rw [encodeParcel_eq, List.length_append, length_coveredBytes, length_leBytes]
  omega

theorem take_encodeParcel (parcel : Parcel) : (encodeParcel parcel).take (4 + parcel.body.length) = coveredBytes parcel :=
  List.take_left' (length_coveredBytes parcel)

theorem drop_encodeParcel (parcel : Parcel) :
    (encodeParcel parcel).drop (4 + parcel.body.length) = leBytes 4 (crc (coveredBytes parcel)).toNat :=
  List.drop_left' (length_coveredBytes parcel)

theorem drop_coveredBytes (parcel : Parcel) : (coveredBytes parcel).drop 4 = parcel.body :=
  List.drop_left' (length_leBytes ..)

theorem header_encodeParcel {parcel : Parcel} (fits : headerWord parcel < 256 ^ 4) :
    leNat ((encodeParcel parcel).take 4) = headerWord parcel := by
  have first : (encodeParcel parcel).take 4 = leBytes 4 (headerWord parcel) := by
    rw [encodeParcel_eq, coveredBytes, List.append_assoc]
    exact List.take_left' (length_leBytes ..)
  rw [first, leNat_leBytes 4 _ fits]

/-- Settles O9: the header spells the fields, the rest of the frame is the body and the CRC of what goes before it. -/
theorem parsedFrameIsTheParcelSent : Obligations.ParsedFrameIsTheParcelSent := by
  intro parcel suits
  obtain ⟨fits, kind, seq, ack, fresh, length⟩ := headerFields_headerWord (length_of_bodySuits suits)
  have whole : (encodeParcel parcel).length = 8 + parcel.body.length ∧
      leNat (leBytes 4 (crc (coveredBytes parcel)).toNat) = (crc (coveredBytes parcel)).toNat :=
    ⟨length_encodeParcel parcel, leNat_leBytes 4 _ (BitVec.isLt _)⟩
  unfold parseParcel
  simp only [header_encodeParcel fits, length, take_encodeParcel, drop_encodeParcel, if_pos whole, kind,
    parcelTypeOf_parcelCode, suits, if_true, seq, ack, fresh, drop_coveredBytes]
  cases bit : parcel.fresh <;> simp [← bit]

end Sys2Proof.Machine
end

section
/-! Ticks at which a link timer reaches its limit (R20, R33, R35, R44, R45). -/

namespace Sys2Proof.Machine

/-! ### The tick of one link -/

section
variable {s : State} {p : PortId}

/-- The ack timer of an ACTIVE link reaches 16 (R45): a replay falls due. -/
theorem tickLink_of_ackTimeout (active : (s.link p).state = .active) (sent : (s.link p).replay ≠ [])
    (timer : (s.link p).ackTimer = 15) : s.tickLink p =
      (s.modLink p fun link => { link with ackTimer := link.ackTimer + 1 }).replayDue p := by
  unfold State.tickLink
  dsimp only
  rw [active, timer]
  dsimp only
  rw [if_neg (by simpa using sent), if_pos (by decide)]

/-- The training timer of a link in TRAINING reaches 100 (R35). -/
theorem tickLink_of_training (training : (s.link p).state = .training) (timer : (s.link p).trainTimer = 99) :
    s.tickLink p = s.modLink p fun link => { link with trainTimer := 0, trainReqWaiting := true } := by
  unfold State.tickLink
  dsimp only
  rw [training, timer]
  dsimp only
  rw [if_pos (by decide)]

/-- The training timer of a link in RETRAIN reaches 100: the next attempt, or the link fails (R35). -/
theorem tickLink_of_retrain (retrain : (s.link p).state = .retrain) (timer : (s.link p).trainTimer = 99) : s.tickLink p =
    if (s.link p).trainAttempts < 3 then s.modLink p fun link =>
      { link with trainTimer := 0, trainAttempts := link.trainAttempts + 1, trainReqWaiting := true }
    else (s.modLink p fun link => { link with trainTimer := link.trainTimer + 1 }).teardown p .linkFailure := by
  unfold State.tickLink
  dsimp only
  rw [retrain, timer]
  dsimp only
  rw [if_pos (by decide)]
  rfl

end

/-! ### What the tick of another link leaves -/

/-- The device state and the link and configuration of port `p` are as before, and port `p` stays torn down. -/
structure Apart (p : PortId) (s t : State) : Prop where
  device : t.device = s.device
  link : t.link p = s.link p
  config : (t.port p).config = (s.port p).config
  torn : ∀ before, TornDown p before s → TornDown p before t

theorem Apart.refl (p : PortId) (s : State) : Apart p s s := ⟨rfl, rfl, rfl, fun _ => id⟩

theorem Apart.trans {p : PortId} {a b c : State} (h : Apart p a b) (k : Apart p b c) : Apart p a c :=
  ⟨k.device.trans h.device, k.link.trans h.link, k.config.trans h.config, fun before => k.torn before ∘ h.torn before⟩

theorem apart_ite {p : PortId} {c : Prop} [Decidable c] {s a b : State} (h : Apart p s a) (k : Apart p s b) :
    Apart p s (if c then a else b) := by
  split
  · exact h
  · exact k

theorem Reports.apart {s t : State} (h : Reports s t) (p : PortId) : Apart p s t :=
  ⟨h.device, h.link p, h.steady.config p, fun _ torn => torn.trained h.trained⟩

theorem apart_modLink (s : State) {p q : PortId} (other : q ≠ p) (f : Link → Link) : Apart p s (s.modLink q f) := by
  have port : (s.modLink q f).port p = s.port p := by rw [State.port_modLink, if_neg other]
  exact
    { device := rfl
      link := State.link_modLink_other s f other
      config := by rw [port]
      torn := fun before torn =>
        { fifo := by rw [port]; exact torn.fifo
          head := by rw [port]; exact torn.head
          tags := fun tag => by rw [State.tagHolder, port]; exact torn.tags tag
          egress := by rw [port]; exact torn.egress
          replay := by rw [State.link_modLink_other s f other]; exact torn.replay
          slots := fun k => by rw [State.slot, port]; exact torn.slots k
          holds := torn.holds
          entries := torn.entries
          commands := torn.commands
          config := by rw [port]; exact torn.config } }

theorem apart_teardown (s : State) {p q : PortId} (other : q ≠ p) (steady : s.device.isDraining = false) (cause : Teardown) :
    Apart p s (s.teardown q cause) := by
  have torn := torn_teardownCore s q cause
  rw [teardown_of_not_draining steady]
  exact ⟨torn.device, by rw [State.link, torn.others p other.symm]; rfl, torn.config, fun _ h => h.torn torn other.symm⟩

theorem apart_replayDue (s : State) {p q : PortId} (other : q ≠ p) : Apart p s (s.replayDue q) :=
  apart_ite (apart_modLink s other _) ((apart_modLink s other _).trans ((reports_offer ..).apart p))

/-- Outside DRAINING the tick of another link is apart from port `p`. -/
theorem apart_tickLink {s : State} {p q : PortId} (other : q ≠ p) (steady : s.device.isDraining = false) :
    Apart p s (s.tickLink q) := by
  have link := apart_modLink s other
  unfold State.tickLink
  dsimp only
  split
  · exact apart_ite (.refl p s) (apart_ite ((link _).trans (apart_replayDue _ other)) (link _))
  · exact apart_ite (link _) (link _)
  · exact apart_ite (apart_ite (link _) ((link _).trans (apart_teardown (s.modLink q _) other steady _))) (link _)
  all_goals exact .refl p s

theorem apart_tickLinks {p : PortId} : ∀ (list : List PortId) (s : State), p ∉ list → s.device.isDraining = false →
    Apart p s (list.foldl State.tickLink s)
  | [], s, _, _ => .refl p s
  | q :: rest, s, out, steady => by
    obtain ⟨other, out⟩ := not_or.1 (mt List.mem_cons.2 out)
    have first := apart_tickLink (s := s) (Ne.symm other) steady
    exact first.trans (apart_tickLinks rest _ out (by rw [first.device]; exact steady))

/-- Outside DRAINING the tick of a link leaves the device state. -/
theorem tickLink_device {s : State} (steady : s.device.isDraining = false) (p : PortId) : (s.tickLink p).device = s.device := by
  have replay : ∀ t : State, (t.replayDue p).device = t.device := by
    intro t
    unfold State.replayDue
    split
    · rfl
    · exact (reports_offer ..).device
  have teardown : ∀ f, ((s.modLink p f).teardown p .linkFailure).device = s.device := fun f => by
    rw [teardown_of_not_draining (s := s.modLink p f) steady]
    exact (torn_teardownCore ..).device
  unfold State.tickLink
  dsimp only
  split
  · split
    · rfl
    · split
      · exact replay _
      · rfl
  · split <;> rfl
  · split
    · split
      · rfl
      · exact teardown _
    · rfl
  all_goals rfl

/-- The ticks of all links, seen from port `p`: those before it and behind it are apart from it. -/
theorem tickLinks_around {s : State} (p : PortId) (steady : s.device.isDraining = false) : ∃ t, Apart p s t ∧
    Apart p (t.tickLink p) (allPorts.foldl State.tickLink s) := by
  obtain ⟨before, behind, split⟩ := List.append_of_mem (mem_allPorts p)
  have nodup : allPorts.Nodup := by decide
  rw [split, List.nodup_middle, List.nodup_cons, List.mem_append, not_or] at nodup
  obtain ⟨⟨out, rest⟩, -⟩ := nodup
  have first := apart_tickLinks before s out steady
  have still : (before.foldl State.tickLink s).device.isDraining = false := by rw [first.device]; exact steady
  refine ⟨_, first, ?_⟩
  rw [split, List.foldl_append, List.foldl_cons]
  exact apart_tickLinks behind _ rest (by rw [tickLink_device still]; exact still)

/-! ### The whole tick -/

/-- What follows the links in a tick trains links that are DOWN at most (R84, R143). -/
theorem trained_takeTick (s : State) : Trained (allPorts.foldl State.tickLink s.timed) s.takeTick := by
  have calibrated : ∀ t : State, Trained t t.tickCalibration := by
    intro t
    unfold State.tickCalibration
    split
    · exact trained_setDevice ..
    · exact .refl t
  have marked : ∀ (t : State) (due : Bool), Trained t (t.setDecisions due) := fun _ _ =>
    ⟨rfl, rfl, rfl, rfl, rfl, fun _ => .refl _⟩
  rw [takeTick_eq]
  exact ((calibrated _).trans (trained_finishParity _)).trans (marked ..)

/-- A tick from `s` to `u`, seen from port `p`: its link ticks in `t` on the link that it had, and keeps what it becomes. -/
structure TickSeen (p : PortId) (s t u : State) : Prop where
  link : t.link p = s.link p
  device : t.device = s.device
  config : (t.port p).config = (s.port p).config
  ends : ((t.tickLink p).link p).state ≠ .down → u.link p = (t.tickLink p).link p
  torn : ∀ before, TornDown p before (t.tickLink p) → TornDown p before u
  tickCount : u.tickCount = s.tickCount + 1
  memory : u.memory = s.memory
  health : u.health = s.health

theorem takeTick_seen {s : State} (p : PortId) (steady : s.device.isDraining = false) : ∃ t, TickSeen p s t s.takeTick := by
  have timed := steady_timed s
  have calm := calm_takeTick s
  obtain ⟨t, first, behind⟩ := tickLinks_around (s := s.timed) p (by rw [timed.device]; exact steady)
  have trained := trained_takeTick s
  exact ⟨t,
    { link := first.link.trans (timed.link p)
      device := first.device.trans timed.device
      config := first.config.trans (timed.config p)
      ends := fun up => by rw [trained.link_of_up (by rw [behind.link]; exact up), behind.link]
      torn := fun before torn => (behind.torn before torn).trained trained
      tickCount := calm.tickCount
      memory := calm.memory
      health := calm.health }⟩

/-- A row that names what comes about in a tick is that tick, where it comes about (R142). -/
theorem exec_tickRow {s : State} {i : Instr} {condition : State → Bool} (row : exec i s = .next (s.tickWhen condition))
    (free : s.TickFree) (c : condition s = true) (p : PortId) (steady : s.device.isDraining = false) :
    ∃ t u, exec i s = .next u ∧ TickSeen p s t u := by
  obtain ⟨ticks, falls⟩ := fallDue_of_tickFree free
  obtain ⟨t, seen⟩ := takeTick_seen (s := { s with ticksDue := ticks }) p steady
  exact ⟨t, _, by rw [row, tickWhen_of_tickFree free c, falls], seen.link, seen.device, seen.config, seen.ends, seen.torn,
    seen.tickCount, seen.memory, seen.health⟩

theorem exec_ackTimeout {s : State} {p : PortId} (free : s.TickFree) (steady : s.device.isDraining = false)
    (active : (s.link p).state = .active) (sent : (s.link p).replay ≠ []) (timer : (s.link p).ackTimer = 15) :
    ∃ t u, exec (.ackTimeout p) s = .next u ∧ TickSeen p s t u :=
  exec_tickRow (condition := ackTimesOut p) (by rw [exec, execAckTimeout]) free
    (decide_eq_true ⟨active, sent, by rw [timer]; decide⟩) p steady

theorem exec_trainingTimeout {s : State} {p : PortId} (free : s.TickFree) (steady : s.device.isDraining = false)
    (trains : (s.link p).state = .training ∨ (s.link p).state = .retrain) (timer : (s.link p).trainTimer = 99) :
    ∃ t u, exec (.trainingTimeout p) s = .next u ∧ TickSeen p s t u :=
  exec_tickRow (condition := trainingTimesOut p) (by rw [exec, execTrainingTimeout]) free
    (decide_eq_true ⟨trains, by rw [timer]; decide⟩) p steady

/-- The link of a failed port (R20, R35, R45). -/
theorem link_teardown_failure {s : State} (p : PortId) (steady : s.device.isDraining = false) :
    (s.teardown p .linkFailure).link p = emptyReplay (stopLink .failed (s.link p)) := by
  rw [teardown_of_not_draining steady, State.link, (torn_teardownCore s p .linkFailure).own]
  rfl

theorem tornDown_failure {s : State} (p : PortId) (steady : s.device.isDraining = false) :
    TornDown p s (s.teardown p .linkFailure) := by
  rw [teardown_of_not_draining steady]
  exact (torn_teardownCore s p .linkFailure).tornDown

/-- Settles O7: outside DRAINING the other links and what follows them in the tick leave what the tick of this link made. -/
theorem linkTimersReachTheirLimits : Obligations.LinkTimersReachTheirLimits := by
  refine ⟨fun s p free steady active sent timer => ?_, fun s p free steady timer => ⟨fun training => ?_, fun retrain more => ?_,
    fun retrain last => ?_⟩⟩
  · obtain ⟨t, u, run, seen⟩ := exec_ackTimeout free steady active sent timer
    have ends := seen.ends
    have counted : (t.modLink p fun link => { link with ackTimer := link.ackTimer + 1 }).link p =
        { s.link p with ackTimer := (s.link p).ackTimer + 1 } := by rw [State.link_modLink_same, seen.link]
    rw [tickLink_of_ackTimeout (by rw [seen.link, active]) (by rw [seen.link]; exact sent) (by rw [seen.link, timer])] at ends
    refine ⟨u, run, ?_, seen.tickCount, seen.memory, seen.health⟩
    split
    · next below =>
      rw [replayDue_of_below (by rw [counted]; exact below), State.link_modLink_same, counted] at ends
      exact ends (by simp [performReplay, beginRetransmit, active])
    · next limit =>
      rw [replayDue_of_limit (by rw [counted]; exact Nat.not_lt.1 limit), link_enterRetrain, counted] at ends
      exact ends (by simp [beginRetrain])
  · obtain ⟨t, u, run, seen⟩ := exec_trainingTimeout free steady (.inl training) timer
    have ends := seen.ends
    rw [tickLink_of_training (by rw [seen.link, training]) (by rw [seen.link, timer]), State.link_modLink_same, seen.link] at ends
    exact ⟨u, run, ends (by simp [training]), seen.memory, seen.health⟩
  · obtain ⟨t, u, run, seen⟩ := exec_trainingTimeout free steady (.inr retrain) timer
    have ends := seen.ends
    rw [tickLink_of_retrain (by rw [seen.link, retrain]) (by rw [seen.link, timer]), if_pos (by rw [seen.link]; exact more),
      State.link_modLink_same, seen.link] at ends
    exact ⟨u, run, ends (by simp [retrain]), seen.memory, seen.health⟩
  · obtain ⟨t, u, run, seen⟩ := exec_trainingTimeout free steady (.inr retrain) timer
    have ends := seen.ends
    have torn := seen.torn s
    have still : t.device.isDraining = false := by rw [seen.device, steady]
    rw [tickLink_of_retrain (by rw [seen.link, retrain]) (by rw [seen.link, timer]),
      if_neg (by rw [seen.link]; exact Nat.not_lt.2 last)] at ends torn
    rw [link_teardown_failure (s := t.modLink p _) p still, State.link_modLink_same, seen.link] at ends
    have failed := ends (by simp [emptyReplay, stopLink])
    refine ⟨u, run, ?_, ?_, ?_, torn ?_, seen.memory, seen.health⟩
    · rw [failed]; rfl
    · rw [failed]; exact congrArg (· + 1) timer
    · rw [failed]; rfl
    · have done := tornDown_failure (s := t.modLink p fun link => { link with trainTimer := link.trainTimer + 1 }) p still
      refine { done with config := done.config.trans ?_ }
      rw [State.port_modLink, if_pos rfl]
      exact seen.config

end Sys2Proof.Machine
end

section
/-! Answers, offered records, the attention test and raised events, each as what it makes of the state (R48, R60, R62, R154 to
R158, R161). -/

namespace Sys2Proof.Machine

/-! ### Answers -/

theorem modPort_modPort (s : State) (p : PortId) (f g : Port → Port) :
    (s.modPort p f).modPort p g = s.modPort p fun port => g (f port) := by
  simp [State.modPort, State.port]

theorem onlyPort_modPort (s : State) (p : PortId) (f : Port → Port) : OnlyPort p s (s.modPort p f) :=
  ⟨fun _ other => State.port_modPort_other s f other.symm, rfl⟩

/-- The port that has answered its head (R48, R60, R62). -/
def answeredPort (place : Nat) (response : Response) (port : Port) : Port :=
  { port with
    fifo := port.fifo.tail, head := .none, attemptDue := false, tags := port.tags.set response.tag none,
    egress := port.egress ++ [{ placed := place, response := response }] }

theorem egress_popHead (s : State) (p : PortId) : ((s.popHead p).port p).egress = (s.port p).egress := by
  rw [State.popHead, State.port_modPort_same]

/-- An answer for which the egress queue has room (R48). -/
theorem answer_of_room {s : State} {p : PortId} (room : (s.port p).egress.length < 32) (response : Response) :
    s.answer p response = { s with order := s.order + 1 }.modPort p (answeredPort s.order response) := by
  have queued : (s.popHead p).respond p response = (((s.popHead p).setTag p response.tag none).modPort p fun port =>
      { port with egress := port.egress ++ [{ placed := s.order, response := response }] }).nextPlace :=
    if_pos (by rw [egress_popHead]; exact room)
  rw [State.answer, queued, State.popHead, State.setTag, modPort_modPort, modPort_modPort]
  rfl

/-- An answer that finds the egress queue full is lost (R48). -/
theorem answer_of_full {s : State} {p : PortId} (full : 32 ≤ (s.port p).egress.length) (response : Response) :
    s.answer p response = (((s.popHead p).setTag p response.tag none).offer
      { code := .responseLost, port := some p, tag := some response.tag }).raise p
        (.protocolError response.tag .responseLost) :=
  if_neg (by rw [egress_popHead]; exact Nat.not_lt.2 full)

/-! ### Offered records -/

theorem mergeable_eq (u : FaultUnit) (stamp : Word) (fault : Offer) : mergeable u stamp fault =
    u.log.getLast?.any fun newest => decide (newest.fault.code = fault.code ∧ newest.fault.port = fault.port ∧
      newest.fault.aperture = fault.aperture ∧ newest.stamp = stamp) := by
  unfold mergeable
  cases u.log.getLast? <;> rfl

theorem count8_eq (counter : BitVec 8) : count8 counter = if counter = 255 then 255 else counter + 1 := by
  unfold count8
  split
  · next full => exact full
  · rfl

theorem count16_eq (counter : BitVec 16) : count16 counter = if counter = 65535 then 65535 else counter + 1 := by
  unfold count16
  split
  · next full => exact full
  · rfl

/-- The log with one repeat more of its newest record (R155). -/
theorem mergeNewest_eq (log : List FaultRecord) : mergeNewest log =
    log.dropLast ++ log.getLast?.toList.map fun newest => { newest with repeats := count8 newest.repeats } := by
  induction log with
  | nil => rfl
  | cons head rest ih =>
    cases rest with
    | nil => rfl
    | cons next others => simp only [mergeNewest, ih, List.dropLast_cons_cons, List.getLast?_cons_cons, List.cons_append]

section
variable {s : State} {fault : Offer}

/-- A record whose class is masked out (R154, step 1). -/
theorem offer_of_masked (masked : inMask s.faults.classMask fault.code = false) : s.offer fault = s := by
  simp [State.offer, logOffer, masked, State.modFaults]

/-- A record that merges into the newest (R154, step 2; R155). -/
theorem offer_of_merge (enabled : inMask s.faults.classMask fault.code = true)
    (merges : mergeable s.faults s.tickCount fault = true) :
    s.offer fault = s.modFaults fun u => { u with log := mergeNewest u.log } := by
  simp [State.offer, logOffer, enabled, merges, State.modFaults]

/-- A record for which the log has room (R154, step 3). -/
theorem offer_of_room (enabled : inMask s.faults.classMask fault.code = true)
    (fresh : mergeable s.faults s.tickCount fault = false) (room : s.faults.log.length < 64) :
    s.offer fault = (s.modFaults fun u => storeRecord u s.tickCount fault).attentionTest := by
  simp [State.offer, logOffer, enabled, fresh, Config.logDepth, room, State.modFaults]

/-- A record that finds the log full (R156). -/
theorem offer_of_full (enabled : inMask s.faults.classMask fault.code = true)
    (fresh : mergeable s.faults s.tickCount fault = false) (full : 64 ≤ s.faults.log.length) :
    s.offer fault = if s.faults.episode = true then
      s.modFaults fun u => { u with overflow := count16 u.overflow, episode := true }
    else (s.modFaults fun u => { u with overflow := count16 u.overflow, episode := true }).attentionTest := by
  have none : ¬s.faults.log.length < 64 := Nat.not_lt.2 full
  cases episode : s.faults.episode <;>
    simp [State.offer, logOffer, enabled, fresh, Config.logDepth, none, State.modFaults, episode]

/-- While the attention flag stands with its condition an offer changes the log alone (R158). -/
theorem offer_of_alerted (standing : s.faults.alerted = true) :
    s.offer fault = s.modFaults fun u => (logOffer u s.tickCount fault).1 := by
  have kept := alerted_logOffer standing s.tickCount fault
  simp only [FaultUnit.alerted, Bool.and_eq_true] at kept
  obtain ⟨condition, attention⟩ := kept
  unfold State.offer State.attentionTest
  simp [condition, attention]

end

/-! ### Raised events -/

theorem linkDead_eq (link : Link) : linkDead link = !decide (link.state ∉ [LinkState.down, .failed]) := by
  cases state : link.state <;> simp [linkDead, state]

section
variable {s : State} {p : PortId}

/-- An event of a port whose link is DOWN or FAILED is dropped (R161). -/
theorem raise_of_dead (dead : (s.link p).state ∈ [LinkState.down, .failed]) (event : Event) : s.raise p event = s :=
  if_pos (by rw [linkDead_eq]; simpa using dead)

/-- An event of a port whose link is up joins its event queue, or is lost from a full one (R161). -/
theorem raise_of_alive (alive : (s.link p).state ∉ [LinkState.down, .failed]) (event : Event) : s.raise p event =
    if (s.port p).events.length < 8 then s.placeEvent p event
    else (s.modPort p fun port => { port with eventsLost := true }).offer { code := .eventLost, port := some p } :=
  if_neg (by rw [linkDead_eq]; simpa using alive)

end

/-! ### LOG_ATTENTION for every subscribed port -/

/-- LOG_ATTENTION is raised for the port (R158, R161). -/
def attends (port : Port) : Bool := port.config.maskAttention && decide (port.link.state ∉ [LinkState.down, .failed])

/-- The event queue has room (R161). -/
def hasRoom (port : Port) : Bool := decide (port.events.length < Config.eventDepth)

/-- The port for which LOG_ATTENTION was raised, or was not (R158, R161). -/
def attendedPort (place : Nat) (port : Port) : Port :=
  if attends port = false then port
  else if hasRoom port = false then { port with eventsLost := true }
  else { port with events := port.events ++ [{ placed := place, event := .logAttention }] }

/-- The event and fault unit after it (R161). -/
def State.attendedFaults (s : State) (p : PortId) : FaultUnit :=
  if attends (s.port p) && !hasRoom (s.port p) then (logOffer s.faults s.tickCount (eventLost p)).1 else s.faults

/-- LOG_ATTENTION raised for one port whose mask includes it (R158). -/
def State.attend (s : State) (p : PortId) : State :=
  if (s.port p).config.maskAttention then
    s.raiseWith (fun s => s.modFaults fun u => (logOffer u s.tickCount (eventLost p)).1) p .logAttention
  else s

theorem raiseAttention_eq (s : State) : s.raiseAttention = allPorts.foldl State.attend s := rfl

theorem modPort_self {s : State} {p : PortId} {f : Port → Port} (h : f (s.port p) = s.port p) : s.modPort p f = s := by
  unfold State.modPort
  rw [h]
  simp [State.port]

theorem attend_eq (s : State) (p : PortId) : s.attend p =
    { s.modPort p (attendedPort s.order) with
      faults := s.attendedFaults p, order := s.order + (attends (s.port p) && hasRoom (s.port p)).toNat } := by
  unfold State.attend State.raiseWith State.attendedFaults
  rw [linkDead_eq]
  cases up : attends (s.port p) with
  | false =>
    rw [modPort_self (f := attendedPort s.order) (by simp [attendedPort, up])]
    split
    · next mask =>
      have dead : decide ((s.link p).state ∉ [LinkState.down, .failed]) = false := by
        rw [attends, mask, Bool.true_and] at up; exact up
      rw [if_pos (by rw [dead]; rfl)]
      rfl
    · rfl
  | true =>
    obtain ⟨mask, alive⟩ := Bool.and_eq_true_iff.1 up
    rw [if_pos mask, if_neg (by simpa [State.link] using alive)]
    cases room : hasRoom (s.port p) with
    | false =>
      rw [if_neg (of_decide_eq_false room), modPort_congr (f := attendedPort s.order) (g := fun port =>
        { port with eventsLost := true }) (by simp [attendedPort, up, room])]
      rfl
    | true =>
      rw [if_pos (of_decide_eq_true room), modPort_congr (f := attendedPort s.order) (g := fun port =>
        { port with events := port.events ++ [{ placed := s.order, event := .logAttention }] })
          (by simp [attendedPort, up, room])]
      rfl

/-- How many ports of a list before port `p` have LOG_ATTENTION queued. -/
def State.attendedBefore (s : State) (ports : List PortId) (p : PortId) : Nat :=
  (ports.filter fun q => decide (q < p) && attends (s.port q) && hasRoom (s.port q)).length

/-- LOG_ATTENTION raised for each port of a list (R158, R161). -/
structure Attended (ports : List PortId) (s t : State) : Prop where
  port : ∀ p, t.port p = if p ∈ ports then attendedPort (s.order + s.attendedBefore ports p) (s.port p) else s.port p
  faults : t.faults = (ports.filter fun p => attends (s.port p) && !hasRoom (s.port p)).foldl
    (fun u p => (logOffer u s.tickCount (eventLost p)).1) s.faults
  rest : { t with ports := s.ports, faults := s.faults, order := s.order } = s

theorem attendedBefore_cons_of_lt (s : State) {a p : PortId} (rest : List PortId) (h : a < p) :
    s.attendedBefore (a :: rest) p = (attends (s.port a) && hasRoom (s.port a)).toNat + s.attendedBefore rest p := by
  cases queued : attends (s.port a) && hasRoom (s.port a) <;> simp [State.attendedBefore, h, queued, Nat.add_comm]

theorem attendedBefore_of_first (s : State) {a : PortId} {ports : List PortId} (h : ∀ q ∈ ports, a ≤ q) :
    s.attendedBefore ports a = 0 := by
  simp only [State.attendedBefore, List.length_eq_zero_iff, List.filter_eq_nil_iff]
  intro q mem
  simp [not_lt.2 (h q mem)]

theorem attendedBefore_congr {s t : State} {ports : List PortId} (h : ∀ q ∈ ports, t.port q = s.port q) (p : PortId) :
    t.attendedBefore ports p = s.attendedBefore ports p :=
  congrArg List.length (List.filter_congr fun q mem => by rw [h q mem])

theorem attended_foldl : ∀ (ports : List PortId) (s : State), ports.Pairwise (· < ·) →
    Attended ports s (ports.foldl State.attend s)
  | [], s, _ => ⟨fun _ => rfl, rfl, rfl⟩
  | a :: rest, s, sorted => by
    obtain ⟨above, sorted⟩ := List.pairwise_cons.1 sorted
    have first := attend_eq s a
    have port : ∀ q, (s.attend a).port q = if a = q then attendedPort s.order (s.port a) else s.port q := fun q => by
      rw [first]
      exact State.port_modPort ..
    have other : ∀ q ∈ rest, (s.attend a).port q = s.port q := fun q mem => by
      rw [port, if_neg (ne_of_lt (above q mem))]
    have order : (s.attend a).order = s.order + (attends (s.port a) && hasRoom (s.port a)).toNat := by rw [first]
    have tickCount : (s.attend a).tickCount = s.tickCount := by rw [first]; rfl
    have own : (s.attend a).faults = s.attendedFaults a := by rw [first]
    have still : { s.attend a with ports := s.ports, faults := s.faults, order := s.order } = s := by rw [first]; rfl
    obtain ⟨ports, faults, kept⟩ := attended_foldl rest (s.attend a) sorted
    rw [List.foldl_cons]
    refine ⟨fun p => ?_, ?_, ?_⟩
    · rw [ports]
      by_cases mem : p ∈ rest
      · rw [if_pos mem, if_pos (List.mem_cons_of_mem a mem), other p mem, order, attendedBefore_congr other,
          attendedBefore_cons_of_lt s rest (above p mem), Nat.add_assoc]
      · rw [if_neg mem, port]
        by_cases same : a = p
        · subst same
          rw [if_pos rfl, if_pos List.mem_cons_self, attendedBefore_of_first s fun q mem =>
            (List.mem_cons.1 mem).elim (fun e => e.ge) fun mem => (above q mem).le, Nat.add_zero]
        · rw [if_neg same, if_neg fun mem' => (List.mem_cons.1 mem').elim (fun e => same e.symm) mem]
    · have lost : (rest.filter fun p => attends ((s.attend a).port p) && !hasRoom ((s.attend a).port p)) =
          rest.filter fun p => attends (s.port p) && !hasRoom (s.port p) :=
        List.filter_congr fun q mem => by rw [other q mem]
      rw [faults, lost, tickCount, own, List.filter_cons, State.attendedFaults]
      split <;> rfl
    · exact (congrArg (fun t : State => { t with ports := s.ports, faults := s.faults, order := s.order }) kept).trans still

theorem attended_raiseAttention (s : State) : Attended allPorts s s.raiseAttention :=
  attended_foldl allPorts s (by decide)

/-- The EVENT_LOST records of a list of ports, where the attention flag stands with its condition (R161). -/
theorem foldl_eventLost (s : State) : ∀ (ports : List PortId) (u : FaultUnit), u.alerted = true →
    ports.foldl (fun u p => (logOffer u s.tickCount (eventLost p)).1) u =
      ports.foldl (fun u p => ({ s with faults := u }.offer { code := .eventLost, port := some p }).faults) u
  | [], _, _ => rfl
  | p :: rest, u, standing => by
    have one : ({ s with faults := u }.offer { code := .eventLost, port := some p }).faults =
        (logOffer u s.tickCount (eventLost p)).1 := by rw [offer_of_alerted (s := { s with faults := u }) standing]; rfl
    rw [List.foldl_cons, List.foldl_cons, one]
    exact foldl_eventLost s rest _ (alerted_logOffer standing ..)

/-! ### The attention test -/

section
variable {s : State}

theorem attentionTest_of_same (h : s.faults.condition = s.faults.attention) : s.attentionTest = s := by
  unfold State.attentionTest
  rw [h]
  cases s.faults.attention <;> rfl

theorem attentionTest_of_end (ended : s.faults.condition = false) (flag : s.faults.attention = true) :
    s.attentionTest = s.modFaults fun u => { u with attention := false } := by
  simp [State.attentionTest, ended, flag]

theorem attentionTest_of_begin (holds : s.faults.condition = true) (flag : s.faults.attention = false) :
    s.attentionTest = (s.modFaults fun u => { u with attention := true }).raiseAttention := by
  simp [State.attentionTest, holds, flag]

end

/-- Settles O22: the answer by the room in the egress queue, the offer by the four outcomes of R154, the attention test by the
flag and its condition, and the raised event by the link state and the room in the event queue. -/
theorem answerFreesTagAndQueuesResponse : Obligations.AnswerFreesTagAndQueuesResponse := by
  refine ⟨fun s p response => ⟨fun room => ?_, fun full => answer_of_full full response⟩, fun s fault => ?_, fun s => ?_,
    fun s p event => ?_⟩
  · rw [answer_of_room room]
    exact ⟨onlyPort_modPort { s with order := s.order + 1 } p _, State.port_modPort_same ..⟩
  · refine ⟨fun masked => offer_of_masked masked, fun enabled merges => ?_, fun enabled fresh room => ?_,
      fun enabled fresh full => ?_⟩
    · rw [offer_of_merge enabled ((mergeable_eq ..).trans merges)]
      simp only [mergeNewest_eq, count8_eq]
    · exact offer_of_room enabled ((mergeable_eq ..).trans fresh) room
    · rw [offer_of_full enabled ((mergeable_eq ..).trans fresh) full]
      simp only [count16_eq]
  · refine ⟨fun same => attentionTest_of_same same, fun ended flag => attentionTest_of_end ended flag, fun holds flag => ?_⟩
    rw [attentionTest_of_begin holds flag]
    obtain ⟨port, faults, rest⟩ := attended_raiseAttention (s.modFaults fun u => { u with attention := true })
    refine ⟨fun p => ?_, ?_, ?_⟩
    · rw [port, if_pos (mem_allPorts p)]
      rfl
    · rw [faults]
      have standing : ({ s.faults with attention := true } : FaultUnit).alerted = true := Bool.and_eq_true_iff.2 ⟨holds, rfl⟩
      exact foldl_eventLost s _ _ standing
    · exact congrArg (fun t : State => { t with faults := s.faults }) rest
  · exact ⟨fun dead => raise_of_dead dead event, fun alive room => (raise_of_alive alive event).trans (if_pos room),
      fun alive full => (raise_of_alive alive event).trans (if_neg (Nat.not_lt.2 full))⟩

end Sys2Proof.Machine
end

section
/-! The taking of a body: the tag test, the device-state gate and the format check, and the drain completion test that ends every
taking (R1, R14, R53, R61 to R63). -/

namespace Sys2Proof.Machine

/-! ### The rows that take a body -/

section
variable {s : State} {p : PortId} {body : List Byte} {rest : List (List Byte)}

/-- The row that names the kind of the body takes it, and the drain completion test ends the taking (R1, R14, R62). -/
theorem exec_takingOf (takes : s.Takes p body rest) :
    exec (takingOf (headerOf body).kind p) s = .next (s.takeHead p).drainEvent := by
  obtain ⟨due, fifo, long⟩ := takes
  have short : tooShort body = false := decide_eq_false (Nat.not_lt.2 long)
  have taken : s.prompted (takesBody p (isKind (headerOf body).kind)) = (s.takeHead p).drainEvent :=
    prompted_of_due due (by simp [takesBody, fifo, isKind, short])
  rw [← taken]
  cases (headerOf body).kind <;> rfl

theorem takeHead_of_takes (takes : s.Takes p body rest) : s.takeHead p = s.takeRequest p body := by
  obtain ⟨-, fifo, long⟩ := takes
  have short : tooShort body = false := decide_eq_false (Nat.not_lt.2 long)
  simp only [State.takeHead, fifo, short, Bool.false_eq_true, if_false]

/-- A body without a header is taken by the row of its own (R53). -/
theorem exec_shortRequest (due : s.nextDue = some (.take p)) (fifo : (s.port p).fifo = body :: rest)
    (short : body.length < 8) : exec (.shortRequest p) s = .next (s.takeShort p).drainEvent := by
  have short : tooShort body = true := decide_eq_true short
  have taken : s.prompted (takesBody p tooShort) = (s.takeShort p).drainEvent := by
    rw [prompted_of_due due (by simp [takesBody, fifo, short]), State.runDue, State.takeHead, fifo]
    simp only [short, if_true]
  rw [← taken]
  rfl

/-- The head leaves the FIFO whose other bodies are `rest` (R62). -/
theorem popHead_of_fifo (fifo : (s.port p).fifo = body :: rest) :
    s.popHead p = s.modPort p fun port => { port with fifo := rest, head := .none, attemptDue := false } :=
  modPort_congr (by rw [fifo, List.tail_cons])

/-! ### The tests of a taking -/

theorem takeRequest_of_reused (held : s.tagHolder p (headerOf body).tag ≠ none) :
    s.takeRequest p body = s.discardReused p (headerOf body).tag :=
  if_pos (Option.isSome_iff_ne_none.2 held)

theorem takeRequest_of_gated {status : Status} (free : s.tagHolder p (headerOf body).tag = none)
    (gated : gate s.device (headerOf body).kind = some status) :
    s.takeRequest p body = s.answer p { tag := (headerOf body).tag, status := status } := by
  simp [State.takeRequest, free, gated]

theorem takeRequest_of_bad (free : s.tagHolder p (headerOf body).tag = none)
    (passed : gate s.device (headerOf body).kind = none) (bad : formatOk (headerOf body) body.length = false) :
    s.takeRequest p body = s.badRequest p (headerOf body).tag := by
  simp [State.takeRequest, free, passed, bad]

/-! ### The gate -/

theorem gate_ready (kind : RequestKind) : gate .ready kind = none := ite_self _

theorem gate_of_draining {device : DevState} (h : device.isDraining = true) {kind : RequestKind} (other : kind ≠ .mgmt) :
    gate device kind = some .retry := by
  cases device <;> simp_all [gate, DevState.isDraining]

theorem gate_of_halted {kind : RequestKind} (other : kind ≠ .mgmt) : gate .halted kind = some .deviceHalted := if_neg other

/-- A request other than MGMT passes the gate outside DRAINING alone (R63). -/
theorem not_draining_of_gate {device : DevState} {kind : RequestKind} (passed : gate device kind = none)
    (other : kind ≠ .mgmt) : device.isDraining = false :=
  Bool.eq_false_iff.2 fun draining => by rw [gate_of_draining draining other] at passed; cases passed

/-- Where the device state stays outside DRAINING the drain completion test does nothing (R14). -/
theorem drainEvent_of_still {t : State} (steady : s.device.isDraining = false) (still : Still s t) : t.drainEvent = t :=
  drainEvent_of_not_draining (by rw [still.device, steady])

/-- The taking of a request that is no MGMT and passes the tests: its handling, which no drain completion follows where it
leaves the device state (R14, R62). -/
theorem exec_of_passes {t : State} {kind : RequestKind} (takes : s.Takes p body rest) (pass : s.Passes p body kind)
    (other : kind ≠ .mgmt) (taken : s.takeKind p (headerOf body) body = t) (still : Still s t) :
    exec (takingOf kind p) s = .next t := by
  have ⟨named, _, passed, _⟩ := pass
  rw [← named, exec_takingOf takes, takeHead_of_passes takes pass, taken,
    drainEvent_of_still (not_draining_of_gate passed other) still]

end

/-! ### The statements -/

/-- Settles O18. -/
theorem shortBodyIsRemoved : Obligations.ShortBodyIsRemoved := by
  intro s p body rest due fifo short
  rw [exec_shortRequest due fifo short, State.takeShort, popHead_of_fifo fifo]

/-- Settles O19. -/
theorem reusedTagIsDiscarded : Obligations.ReusedTagIsDiscarded := by
  intro s p body rest takes held
  have ⟨_, fifo, _⟩ := takes
  rw [exec_takingOf takes, takeHead_of_takes takes, takeRequest_of_reused held, State.discardReused, popHead_of_fifo fifo]

/-- Settles O20: the gate by the device state; in HALTED the drain completion test has nothing to do. -/
theorem gateAnswersOutsideReady : Obligations.GateAnswersOutsideReady := by
  refine ⟨gate_ready, fun device => if_pos rfl,
    fun s p body rest takes free other => ⟨fun draining => ?_, fun halted => ?_⟩⟩
  · rw [exec_takingOf takes, takeHead_of_takes takes, takeRequest_of_gated free (gate_of_draining draining other)]
  · have gated : gate s.device (headerOf body).kind = some .deviceHalted := by rw [halted, gate_of_halted other]
    have steady : s.device.isDraining = false := by rw [halted]; rfl
    rw [exec_takingOf takes, takeHead_of_takes takes, takeRequest_of_gated free gated, drainEvent_of_still steady (still_answer ..)]

/-! ### Numbers in bytes and the fields of a header -/

/-- A number of `count` bytes fits in them (section 1.5). -/
theorem leNat_lt : ∀ bytes : List Byte, leNat bytes < 256 ^ bytes.length
  | [] => Nat.one_pos
  | byte :: rest => by
    have low := byte.isLt
    have high := leNat_lt rest
    rw [leNat, List.length_cons, Nat.pow_succ]
    omega

theorem numberAt_lt (bytes : List Byte) (place count : Nat) : numberAt bytes place count < 256 ^ count :=
  (leNat_lt _).trans_le (Nat.pow_le_pow_right (by decide) (List.length_take_le ..))

theorem numberAt_succ (bytes : List Byte) (place count : Nat) : numberAt bytes place (count + 1) =
    (bytes.getD place 0).toNat + 256 * numberAt bytes (place + 1) count := by
  by_cases inside : place < bytes.length
  · rw [numberAt, List.drop_eq_getElem_cons inside, List.take_succ_cons, leNat, List.getD_eq_getElem _ _ inside, numberAt]
  · have outside : bytes.length ≤ place := Nat.not_lt.1 inside
    rw [numberAt, numberAt, List.drop_eq_nil_of_le outside, List.drop_eq_nil_of_le (Nat.le_succ_of_le outside),
      List.getD_eq_default _ _ outside, List.take_nil, List.take_nil]
    rfl

/-- The header of a body as the quotients and remainders of its word (Table 3-1). -/
theorem headerOf_eq (body : List Byte) :
    let word := numberAt body 0 8
    headerOf body =
      { kind := requestKind (word / 2 ^ 60), tag := Fin.ofNat 32 (word / 2 ^ 55), slot := Fin.ofNat 8 (word / 2 ^ 52),
        lengthCode := word / 2 ^ 50 % 4, offset := word / 2 ^ 24 % 2 ^ 26, specific := word % 2 ^ 24 } := by
  have fits : numberAt body 0 8 / 2 ^ 60 % 2 ^ 4 = numberAt body 0 8 / 2 ^ 60 :=
    Nat.mod_eq_of_lt (Nat.div_lt_of_lt_mul (numberAt_lt body 0 8))
  have tag : numberAt body 0 8 / 2 ^ 55 % 2 ^ 5 % 32 = numberAt body 0 8 / 2 ^ 55 % 32 := Nat.mod_mod ..
  have slot : numberAt body 0 8 / 2 ^ 52 % 2 ^ 3 % 8 = numberAt body 0 8 / 2 ^ 52 % 8 := Nat.mod_mod ..
  simp only [headerOf, field, fits, Fin.ofNat, tag, slot, Nat.pow_zero, Nat.div_one]
  rfl

/-! ### The format check -/

theorem requestKind_invalid {code : Nat} (h : code = 0 ∨ 12 ≤ code) : requestKind code = .invalid := by
  match code with
  | 0 => rfl
  | 1 | 2 | 3 | 4 | 5 | 6 | 7 | 8 | 9 | 10 | 11 => omega
  | n + 12 => rfl

/-- The length of a WRITE by its length code (Table 3-3). -/
theorem writeFormat_iff {code length : Nat} (small : code < 4) : (code ≠ 3 ∧ length = 8 + 16 * unitsOfCode code) ↔
    (code = 0 ∧ length = 24) ∨ (code = 1 ∧ length = 40) ∨ (code = 2 ∧ length = 72) := by
  interval_cases code <;> simp [unitsOfCode]

/-- The op and the length of an ATOMIC (Table 3-3). -/
theorem atomicFormat_iff {header : Header} {length : Nat} (kind : header.kind = .atomic) : formatOk header length = true ↔
    (header.specific % 8 ≠ 2 ∧ header.specific % 8 ≤ 4 ∧ length = 16) ∨ (header.specific % 8 = 2 ∧ length = 24) := by
  have op : field header.specific 0 3 = header.specific % 8 := by simp [field]
  have small : header.specific % 8 < 8 := Nat.mod_lt _ (by decide)
  simp only [formatOk, kind, op]
  generalize header.specific % 8 = op at small
  interval_cases op <;> simp [atomicOpOf]

/-- The format check by the kind code, the length code and the op (Table 3-3). -/
theorem formatOk_iff {header : Header} {length code : Nat} (kind : header.kind = requestKind code)
    (small : header.lengthCode < 4) : formatOk header length = true ↔
      (code = 1 ∧ header.lengthCode ≠ 3 ∧ length = 8) ∨
      (code = 2 ∧ ((header.lengthCode = 0 ∧ length = 24) ∨ (header.lengthCode = 1 ∧ length = 40) ∨
        (header.lengthCode = 2 ∧ length = 72))) ∨
      (code = 3 ∧ length = 26) ∨
      (code = 4 ∧ ((header.specific % 8 ≠ 2 ∧ header.specific % 8 ≤ 4 ∧ length = 16) ∨
        (header.specific % 8 = 2 ∧ length = 24))) ∨
      (5 ≤ code ∧ code ≤ 10 ∧ length = 8) ∨
      (code = 11 ∧ 9 ≤ length ∧ length ≤ 128) := by
  match code with
  | 0 => simp [formatOk, kind, requestKind]
  | 1 => simp [formatOk, kind, requestKind]
  | 2 => simp [formatOk, kind, requestKind, ← writeFormat_iff small]
  | 3 => simp [formatOk, kind, requestKind]
  | 4 => simp [atomicFormat_iff kind]
  | 5 | 6 | 7 | 8 | 9 | 10 | 11 => simp [formatOk, kind, requestKind]
  | n + 12 => simp [formatOk, kind, requestKind]

/-- Settles O21: the check by the kind code; a code outside Table 3-3 names the invalid kind, which fails the check. -/
theorem badFormatIsAnswered : Obligations.BadFormatIsAnswered := by
  refine ⟨fun body long => ?_, fun s p body rest takes free passed bad => ?_,
    fun s p body rest takes code ready free => ?_⟩
  · have op : numberAt body 0 8 % 2 ^ 24 % 8 = numberAt body 0 8 % 8 := Nat.mod_mod_of_dvd _ (by decide)
    have check := formatOk_iff (header := headerOf body) (length := body.length) (code := numberAt body 0 8 / 2 ^ 60)
      (by rw [headerOf_eq]) (by rw [headerOf_eq]; exact Nat.mod_lt _ (by decide))
    rw [headerOf_eq] at check ⊢
    simp only [op] at check
    exact check
  · rw [exec_takingOf takes, takeHead_of_takes takes, takeRequest_of_bad free passed bad, State.badRequest]
  · have kind : (headerOf body).kind = .invalid := by
      rw [headerOf_eq]
      exact requestKind_invalid code
    have bad : formatOk (headerOf body) body.length = false := by rw [formatOk, kind]
    have steady : s.device.isDraining = false := by rw [ready]; rfl
    have row := exec_takingOf takes
    rw [kind, takeHead_of_takes takes, takeRequest_of_bad free (by rw [ready, gate_ready]) bad, State.badRequest,
      drainEvent_of_still steady (still_answerOffer ..)] at row
    exact row

end Sys2Proof.Machine
end

section
/-! The admission of data requests: the attempt at the head of a port, its outcomes, and new attempts (R52, R54, R55, R60, R64, R95
to R100, R104 to R107, R132). -/

namespace Sys2Proof.Machine

/-! ### Request kinds and the entry of a body -/

theorem requestKind_eq (code : Nat) : requestKind code =
    ([.invalid, .read, .write, .writeMasked, .atomic, .bind, .unbind, .querySlot, .holdOpen, .holdRelease, .fence,
      .mgmt] : List RequestKind).getD code .invalid := by
  match code with
  | 0 | 1 | 2 | 3 | 4 | 5 | 6 | 7 | 8 | 9 | 10 | 11 => rfl
  | n + 12 => rfl

theorem unitsOfCode_eq (code : Nat) : unitsOfCode code = ([1, 2, 4] : List Nat).getD code 0 := by
  match code with
  | 0 | 1 | 2 => rfl
  | n + 3 => rfl

theorem atomicOpOf_eq (op : Nat) :
    atomicOpOf op = ([.fetchAdd, .swap, .compareSwap, .fetchOr, .fetchAnd] : List AtomicOp)[op]? := by
  match op with
  | 0 | 1 | 2 | 3 | 4 => rfl
  | n + 5 => rfl

theorem transferUnits_eq (header : Header) : transferUnits header =
    if header.kind = .read ∨ header.kind = .write then ([1, 2, 4] : List Nat).getD header.lengthCode 0 else 1 := by
  rw [← unitsOfCode_eq]
  unfold transferUnits
  cases header.kind <;> rfl

theorem alignment_eq (header : Header) :
    alignment header = if header.kind = .atomic then 8 else 16 * transferUnits header := by
  unfold alignment
  cases header.kind <;> rfl

section
variable {header : Header} (body : List Byte)

theorem entryOp_of_read (kind : header.kind = .read) : entryOp header body = .read := by rw [entryOp, kind]

theorem entryOp_of_write (kind : header.kind = .write) :
    entryOp header body = .write ((body.drop 8).take (16 * transferUnits header)) := by rw [entryOp, transferUnits, kind]

theorem entryOp_of_writeMasked (kind : header.kind = .writeMasked) :
    entryOp header body = .writeMasked ((body.drop 8).take 16) (BitVec.ofNat 16 (numberAt body 24 2)) := by
  rw [entryOp, kind]

theorem entryOp_of_atomic {op : AtomicOp} (kind : header.kind = .atomic)
    (named : ([.fetchAdd, .swap, .compareSwap, .fetchOr, .fetchAnd] : List AtomicOp)[header.specific % 8]? = some op) :
    entryOp header body = .atomic op (decide (header.offset % 16 = 8)) (BitVec.ofNat 64 (numberAt body 8 8))
      (BitVec.ofNat 64 (numberAt body 16 8)) := by
  have field : atomicOpOf (field header.specific 0 3) = some op := by simpa [field, atomicOpOf_eq] using named
  rw [entryOp, kind, field, Option.getD_some]

/-- The checks of a data request against a BOUND slot, where it meets them all (R96 to R100). -/
theorem translate_of_bound {copy : SlotCopy} (right : rightHeld header.kind copy.rights = true)
    (aligned : header.offset % (if header.kind = .atomic then 8 else 16 * transferUnits header) = 0)
    (bounds : header.offset / 16 + transferUnits header ≤ copy.limit.toNat + 1) :
    translate (.bound copy) header =
      .ok { unit := copy.base + BitVec.ofNat 22 (header.offset / 16), length := transferUnits header,
            aperture := handleIndex copy.handle } := by
  rw [← alignment_eq] at aligned
  have inside : inBounds copy header.offset (transferUnits header) = true := decide_eq_true bounds
  simp [translate, slotCheck, right, aligned, inside, unitOfOffset]

end

/-! ### The hold test -/

theorem writeType_iff (kind : RequestKind) : writeType kind = true ↔ kind ∈ [.write, .writeMasked, .atomic] := by
  cases kind <;> decide

theorem holdTest_eq (s : State) (p : PortId) (kind : RequestKind) (transfer : Transfer) : s.holdTest p kind transfer =
    if kind ∈ [.write, .writeMasked, .atomic] then
      allHolds.find? fun h => (s.hold h).any (excludes p transfer.unit transfer.length)
    else none := if_congr (writeType_iff kind) rfl rfl

theorem excludes_iff (p : PortId) (first : UnitAddr) (length : Nat) (hold : Hold) : excludes p first length hold = true ↔
    hold.owner ≠ p ∧ hold.first.toNat < first.toNat + length ∧ first.toNat < hold.first.toNat + hold.span := by
  simp [excludes, overlaps]

/-- A write that no hold excludes passes the hold test, and a READ always does (R132). -/
theorem holdTest_eq_none {s : State} {p : PortId} {kind : RequestKind} {transfer : Transfer}
    (h : kind = .read ∨ ∀ h hold, s.hold h = some hold → excludes p transfer.unit transfer.length hold = false) :
    s.holdTest p kind transfer = none := by
  rcases h with rfl | free
  · rfl
  · rw [holdTest_eq]
    refine ite_eq_right_iff.2 fun _ => List.find?_eq_none.2 fun h _ => ?_
    cases found : s.hold h with
    | none => simp
    | some hold => simp [free h hold found]

/-- The first hold id of the table that meets a condition, in ascending order (R131, R132). -/
theorem find_allHolds {test : HoldId → Bool} {h : HoldId} (met : test h = true) (first : ∀ g, g < h → test g = false) :
    allHolds.find? test = some h := by
  rw [allHolds, List.find?_eq_some_iff_getElem]
  refine ⟨met, h.val, by simp, by simp, fun j before => ?_⟩
  simpa using first ⟨j, before.trans h.isLt⟩ before

/-- A write that meets foreign holds meets the one of lowest id (R132). -/
theorem holdTest_eq_some {s : State} {p : PortId} {kind : RequestKind} {transfer : Transfer} {h : HoldId}
    (write : kind ∈ [.write, .writeMasked, .atomic])
    (met : ∃ hold, s.hold h = some hold ∧ excludes p transfer.unit transfer.length hold = true)
    (first : ∀ g, g < h → ∀ hold, s.hold g = some hold → excludes p transfer.unit transfer.length hold = false) :
    s.holdTest p kind transfer = some h := by
  rw [holdTest_eq, if_pos write]
  refine find_allHolds ?_ fun g before => ?_
  · obtain ⟨hold, found, excluded⟩ := met
    rw [found]
    exact excluded
  · cases found : s.hold g with
    | none => rfl
    | some hold => exact first g before hold found

/-! ### Admission -/

/-- A port whose head has been admitted or handed on: it left the FIFO and its tag has a holder (R60, R62, R106). -/
def takenPort (tag : Tag) (holder : Holder) (port : Port) : Port :=
  { port with fifo := port.fifo.tail, head := .none, attemptDue := false, tags := port.tags.set tag (some holder) }

/-- A port whose head waits for bank queue space, and which was taken at this place (R60, R64). -/
def waitingPort (place : Nat) (tag : Tag) (port : Port) : Port :=
  { port with
    head := .waitingSpace, waitingSince := place, attemptDue := false, tags := port.tags.set tag (some .head) }

theorem popHead_setTag (s : State) (p : PortId) (tag : Tag) (holder : Holder) :
    (s.setTag p tag (some holder)).popHead p = s.modPort p (takenPort tag holder) := modPort_modPort ..

theorem tags_taken (s : State) (p : PortId) (tag : Tag) (holder : Holder) (other : Tag) :
    (s.modPort p (takenPort tag holder)).tagHolder p other = if tag = other then some holder else s.tagHolder p other := by
  rw [State.tagHolder, State.port_modPort_same]
  simp only [takenPort, Fin.getElem_fin, Vector.getElem_set, Fin.ext_iff]
  rfl

theorem waitSpace_of_new {s : State} {p : PortId} (fresh : (s.port p).head ≠ .waitingSpace) (tag : Tag) :
    s.waitSpace p tag = { s with order := s.order + 1 }.modPort p (waitingPort s.order tag) := by
  rw [State.waitSpace, if_neg fresh, State.setTag, modPort_modPort]
  rfl

/-- The state in which the new attempt of a port is judged: it is no longer due (R64). -/
def State.attemptBegun (s : State) (p : PortId) : State := s.modPort p fun port => { port with attemptDue := false }

theorem reattempt_eq (s : State) (p : PortId) : s.reattempt p = (s.attemptBegun p).attempt p ((s.port p).fifo.headD []) := rfl

theorem slot_attemptBegun (s : State) (p : PortId) (k : SlotId) : (s.attemptBegun p).slot p k = s.slot p k := by
  rw [State.slot, State.attemptBegun, State.port_modPort_same]
  rfl

theorem modBank_modPort (s : State) (p : PortId) (b : BankId) (f : Port → Port) (g : Bank → Bank) :
    (s.modPort p f).modBank b g = (s.modBank b g).modPort p f := rfl

theorem modEntry_modPort (s : State) (p : PortId) (i : ApIndex) (f : Port → Port) (g : ApEntry → ApEntry) :
    (s.modPort p f).modEntry i g = (s.modEntry i g).modPort p f := rfl

section
variable (s : State) (p : PortId) (header : Header) (body : List Byte) (transfer : Transfer) (parking : Option HoldId)

/-- Admission bank by bank, entry by entry and port by port (R106). -/
theorem admission_eq : s.admission p header body transfer parking =
    ((((s.modBank (s.targetBank transfer) (appendEntry (entryFor p header body transfer s.order parking))).modEntry
      transfer.aperture fun entry => { entry with inFlight := entry.inFlight + 1 }).modPort p
        (takenPort header.tag .bank))).nextPlace := by
  rw [State.admission, popHead_setTag]

theorem port_admission (q : PortId) : (s.admission p header body transfer parking).port q =
    if p = q then takenPort header.tag .bank (s.port p) else s.port q := by
  rw [admission_eq]
  exact State.port_modPort s p q _

theorem bank_admission (b : BankId) : (s.admission p header body transfer parking).bank b =
    if s.targetBank transfer = b then
      appendEntry (entryFor p header body transfer s.order parking) (s.bank (s.targetBank transfer))
    else s.bank b := by
  rw [admission_eq]
  exact State.bank_modBank s (s.targetBank transfer) b _

theorem entry_admission (i : ApIndex) : (s.admission p header body transfer parking).entry i =
    if transfer.aperture = i then { s.entry i with inFlight := (s.entry i).inFlight + 1 } else s.entry i := by
  have counted := State.entry_modEntry s transfer.aperture i fun entry => { entry with inFlight := entry.inFlight + 1 }
  rw [admission_eq]
  refine counted.trans ?_
  split
  · next same => rw [same]
  · rfl

theorem tagHolder_admission (tag : Tag) : (s.admission p header body transfer parking).tagHolder p tag =
    if header.tag = tag then some .bank else s.tagHolder p tag := by
  rw [admission_eq]
  exact tags_taken s p header.tag .bank tag

/-! Nothing of a bank that an entry joins changes but its queue, its parked count and its decision point (R106, R110). -/

theorem appendEntry_queue (entry : Entry) (bank : Bank) : (appendEntry entry bank).queue = bank.queue ++ [entry] :=
  dueIfIdle_queue _

theorem appendEntry_parked (entry : Entry) (bank : Bank) :
    (appendEntry entry bank).parked = bank.parked + entry.parkedOn.isSome.toNat := by
  unfold appendEntry dueIfIdle
  split <;> rfl

theorem appendEntry_state (entry : Entry) (bank : Bank) : (appendEntry entry bank).state = bank.state := by
  unfold appendEntry dueIfIdle
  split <;> rfl

/-- Admission does what R105 and R106 say. -/
theorem admitted_admission : Admitted p header (entryFor p header body transfer s.order parking) (s.targetBank transfer) s
    (s.admission p header body transfer parking) where
  queue := by rw [bank_admission, if_pos rfl, appendEntry_queue]
  parked := by rw [bank_admission, if_pos rfl, appendEntry_parked]
  others b other := by rw [bank_admission, if_neg other.symm]
  work := by rw [bank_admission, if_pos rfl, appendEntry_state]
  inFlight := congrArg ApEntry.inFlight ((entry_admission ..).trans (if_pos rfl))
  entries i other := (entry_admission ..).trans (if_neg other.symm)
  tag := by rw [tagHolder_admission, if_pos rfl]
  tags tag other := by rw [tagHolder_admission, if_neg other.symm]
  fifo := by rw [port_admission, if_pos rfl, takenPort]
  head := by rw [port_admission, if_pos rfl, takenPort]
  ports q other := by rw [port_admission, if_neg other.symm]
  rest := rfl

/-- A due attempt that has begun makes no difference to an admission, which clears it too (R64, R106). -/
theorem admission_attemptBegun :
    (s.attemptBegun p).admission p header body transfer parking = s.admission p header body transfer parking := by
  have target : (s.attemptBegun p).targetBank transfer = s.targetBank transfer := rfl
  rw [admission_eq, admission_eq, target, State.attemptBegun, modBank_modPort, modEntry_modPort, modPort_modPort]
  exact congrArg State.nextPlace (modPort_congr rfl)

end

/-! ### The attempt -/

section
variable {s : State} {p : PortId} {body : List Byte} {transfer : Transfer}
  (translated : translate (s.slot p (headerOf body).slot) (headerOf body) = .ok transfer)
include translated

/-- A request that is not answered HELD is admitted where its bank queue has room and waits where it has none (R64, R106). -/
theorem attempt_of_open {parking : Option HoldId} (parks : s.holdTest p (headerOf body).kind transfer = parking)
    (few : parking = none ∨ (s.bank (s.targetBank transfer)).parked < 6) :
    s.attempt p body = if (s.bank (s.targetBank transfer)).queue.length < 8 then
      s.admission p (headerOf body) body transfer parking else s.waitSpace p (headerOf body).tag := by
  have goes : (parking.isSome && decide (Config.parkedLimit ≤ (s.bank (s.targetBank transfer)).parked)) = false := by
    rcases few with rfl | few
    · rfl
    · exact Bool.and_eq_false_iff.2 (.inr (decide_eq_false (Nat.not_le.2 few)))
  simp only [State.attempt, translated, parks, goes, Bool.false_eq_true, if_false]
  rfl

/-- A write that would be the seventh parked entry of its bank is answered HELD (R107). -/
theorem attempt_of_held {h : HoldId} (parks : s.holdTest p (headerOf body).kind transfer = some h)
    (many : 6 ≤ (s.bank (s.targetBank transfer)).parked) :
    s.attempt p body = (s.answer p { tag := (headerOf body).tag, status := .held }).offer
      (requestOffer .held p (headerOf body) (some transfer.aperture) (some transfer.unit)) := by
  simp only [State.attempt, translated, parks, Option.isSome_some, Bool.true_and]
  exact if_pos (decide_eq_true many)

end

/-! ### The rows -/

theorem takeKind_of_data {s : State} {p : PortId} {header : Header} {body : List Byte}
    (data : header.kind ∈ [.read, .write, .writeMasked, .atomic]) : s.takeKind p header body = s.attempt p body := by
  rw [State.takeKind]
  simp only [List.mem_cons, List.not_mem_nil, or_false] at data
  rcases data with kind | kind | kind | kind <;> rw [kind]

/-- The port that takes has no request that waits at its head (R62). -/
theorem head_of_take {s : State} {p : PortId} (due : s.nextDue = some (.take p)) : (s.port p).head = .none := by
  unfold State.nextDue at due
  split at due
  · cases due
  · split at due
    · next found =>
      cases due
      have takes := List.find?_some found
      simp only [takeable, Bool.and_eq_true, decide_eq_true_eq] at takes
      obtain ⟨⟨-, head⟩, -⟩ := takes
      exact head
    · split at due
      · cases due
      · split at due
        · cases due
        · cases decision : s.decideNext <;> rw [decision] at due <;> cases due

section
variable {s : State} {p : PortId} {body : List Byte} {rest : List (List Byte)} {kind : RequestKind} {transfer : Transfer}
  {parking : Option HoldId} (takes : s.Takes p body rest) (pass : s.Passes p body kind)
  (data : kind ∈ [.read, .write, .writeMasked, .atomic])
include takes pass data

theorem exec_data {t : State} (attempt : s.attempt p body = t) (still : Still s t) : exec (takingOf kind p) s = .next t :=
  exec_of_passes takes pass (by rintro rfl; revert data; decide)
    ((takeKind_of_data (by rw [pass.1]; exact data)).trans attempt) still

variable (translated : translate (s.slot p (headerOf body).slot) (headerOf body) = .ok transfer)
  (parks : s.holdTest p kind transfer = parking) (few : parking = none ∨ (s.bank (s.targetBank transfer)).parked < 6)
include translated parks few

/-- A request whose bank queue has room is taken and admitted (R64, R106). -/
theorem exec_data_of_room (room : (s.bank (s.targetBank transfer)).queue.length < 8) :
    exec (takingOf kind p) s = .next (s.admission p (headerOf body) body transfer parking) :=
  exec_data takes pass data ((attempt_of_open translated (by rw [pass.1]; exact parks) few).trans (if_pos room))
    (still_admission ..)

/-- A request whose bank queue is full is taken and waits (R60, R64). -/
theorem exec_data_of_full (full : 8 ≤ (s.bank (s.targetBank transfer)).queue.length) :
    exec (takingOf kind p) s =
      .next ({ s with order := s.order + 1 }.modPort p (waitingPort s.order (headerOf body).tag)) := by
  have fresh : (s.port p).head ≠ .waitingSpace := by rw [head_of_take takes.1]; decide
  have attempt := (attempt_of_open translated (by rw [pass.1]; exact parks) few).trans (if_neg (Nat.not_lt.2 full))
  rw [← waitSpace_of_new fresh]
  exact exec_data takes pass data attempt (still_waitSpace ..)

end

/-- A new attempt that is due next takes effect, with the drain completion test after it (R1, R14, R64). -/
theorem exec_admissionReattempt {s : State} {p : PortId} (due : s.nextDue = some (.attempt p)) :
    exec (.admissionReattempt p) s = .next (s.reattempt p).drainEvent :=
  congrArg _ (prompted_of_due due (decide_eq_true rfl))

/-- A new attempt that is admitted: what it leaves queued keeps a drain from completing (R14, R64). -/
theorem reattempt_of_room {s : State} {p : PortId} {body : List Byte} {rest : List (List Byte)} {transfer : Transfer}
    (fifo : (s.port p).fifo = body :: rest)
    (translated : translate (s.slot p (headerOf body).slot) (headerOf body) = .ok transfer)
    (parks : s.holdTest p (headerOf body).kind transfer = none)
    (room : (s.bank (s.targetBank transfer)).queue.length < 8) :
    (s.reattempt p).drainEvent = s.admission p (headerOf body) body transfer none := by
  have attempt : s.reattempt p = s.admission p (headerOf body) body transfer none := by
    rw [reattempt_eq, fifo, List.headD_cons, ← admission_attemptBegun]
    exact (attempt_of_open (s := s.attemptBegun p) (by rw [slot_attemptBegun]; exact translated) parks (.inl rfl)).trans (if_pos room)
  have queue := (admitted_admission s p (headerOf body) body transfer none).queue
  rw [attempt, drainEvent_of_not_done (drainDone_of_queue (b := s.targetBank transfer) (by rw [queue]; simp))]

/-! ### The statements -/

/-- Settles O23: the header and the entry as the bytes of the body spell them, the translation, and the attempt. -/
theorem dataRequestIsAdmitted : Obligations.DataRequestIsAdmitted := by
  refine ⟨fun bytes place count => ⟨rfl, numberAt_succ ..⟩, fun body => ⟨?_, transferUnits_eq _, entryOp_of_read body,
    entryOp_of_write body, entryOp_of_writeMasked body, fun kind op named => ?_⟩, fun copy header => translate_of_bound,
    fun s p body rest kind copy takes pass data => ?_⟩
  · rw [headerOf_eq]
    exact ⟨requestKind_eq _, rfl, rfl, rfl, rfl, rfl⟩
  · exact ⟨_, entryOp_of_atomic body kind named, fun _ => rfl⟩
  · intro header first bank bound right aligned bounds free room
    let transfer : Transfer := { unit := first, length := transferUnits header, aperture := handleIndex copy.handle }
    have kind := pass.1
    have translated : translate (s.slot p header.slot) header = .ok transfer := by
      rw [bound]
      exact translate_of_bound (by rw [kind]; exact right) (by rw [kind]; exact aligned) bounds
    exact ⟨_, exec_data_of_room takes pass data translated (holdTest_eq_none free) (.inl rfl) room,
      admitted_admission s p header body transfer none⟩

/-- Settles O25: the attempt that finds no room, and the new attempt that finds it. -/
theorem dataRequestWaitsAndTriesAgain : Obligations.DataRequestWaitsAndTriesAgain := by
  refine ⟨holdTest_eq, fun s p body rest kind transfer takes pass data translated parks full _ => ?_,
    fun s p body rest transfer due fifo translated parks room => ?_⟩
  · exact ⟨_, exec_data_of_full takes pass data translated parks (.inl rfl) full, onlyPort_modPort ..,
      State.port_modPort_same ..⟩
  · rw [exec_admissionReattempt due, reattempt_of_room fifo translated parks room]
    exact ⟨_, rfl, admitted_admission ..⟩

/-- Settles O26: the hold of lowest id, then the parked count and the room in the bank queue. -/
theorem foreignHoldParksOrRefuses : Obligations.ForeignHoldParksOrRefuses := by
  refine ⟨excludes_iff, fun s p body rest kind transfer h takes pass write translated met first => ?_⟩
  have data : kind ∈ [.read, .write, .writeMasked, .atomic] := List.mem_cons_of_mem _ write
  have parks := holdTest_eq_some (p := p) write met first
  refine ⟨fun many => ?_, fun few room => ?_, fun few full => ?_⟩
  · exact exec_data takes pass data (attempt_of_held translated (by rw [pass.1]; exact parks) many) (still_answerOffer ..)
  · exact ⟨_, exec_data_of_room takes pass data translated parks (.inr few) room, admitted_admission ..⟩
  · exact ⟨_, exec_data_of_full takes pass data translated parks (.inr few) full, onlyPort_modPort ..,
      State.port_modPort_same ..⟩

end Sys2Proof.Machine
end

section
/-! HOLD_OPEN and HOLD_RELEASE: the checks in their order, the grant and the release (R57, R128 to R131, R134, R135). -/

namespace Sys2Proof.Machine

/-- A chain of checks: what is so of the outcome under a check, and, where the check does not apply, under those behind it. -/
theorem ite_of_outcome {outcome : Host.Outcome State Fault Refusal} {f : State → Host.Outcome State Fault Refusal} {c rest : Prop}
    [Decidable c] {met other : State} (h : outcome = f (if c then met else other))
    (k : outcome = f other → rest) :
    if c then outcome = f met else rest := by
  split
  · next holds => rw [h, if_pos holds]
  · next fails => exact k (by rw [h, if_neg fails])

/-! ### The fields of the header -/

theorem spanField_eq (header : Header) : spanField header = header.specific % 128 := by simp [spanField, field]

theorem durationField_eq (header : Header) : durationField header = header.specific / 128 % 65536 := by
  simp [durationField, field]

theorem holdField_eq (header : Header) : holdField header = Fin.ofNat 16 (header.specific % 16) := by
  simp [holdField, field]

theorem grantedDuration_eq (requested ceiling : Nat) :
    grantedDuration requested ceiling = if requested = 0 ∨ ceiling < requested then ceiling else requested := by
  unfold grantedDuration
  split_ifs <;> omega

/-! ### HOLD_OPEN -/

section
variable (s : State) (p : PortId) (header : Header) (copy : SlotCopy)

/-- A HOLD_OPEN through a BOUND slot: the right first, then the checks of its own (R97, R128). -/
theorem takeHoldOpen_of_bound {header : Header} (kind : header.kind = .holdOpen) (bound : s.slot p header.slot = .bound copy) :
    s.takeHoldOpen p header = if copy.rights.write = false then s.refuseHold p header copy .deniedRights .deniedRights
      else s.judgeHold p header copy := by
  simp only [State.takeHoldOpen, bound, slotCheck, kind, rightHeld, State.refuseHold]
  cases copy.rights.write <;> rfl

/-- The checks of HOLD_OPEN in their order (R128 to R130). -/
theorem judgeHold_eq : s.judgeHold p header copy =
    if header.offset % 16 ≠ 0 then s.refuseHold p header copy .badAlign .holdBadAlign
    else if header.specific % 128 = 0 ∨ 64 < header.specific % 128 then s.refuseHold p header copy .badAlign .holdBadSpan
    else if copy.limit.toNat + 1 < header.offset / 16 + header.specific % 128 then
      s.refuseHold p header copy .outOfBounds .holdOutOfBounds
    else if 16 ≤ s.activeHolds ∨ 4 ≤ s.ownedHolds p then
      s.refuseHold p header copy .holdExhausted .holdExhausted (some (unitOfOffset copy header.offset))
    else if s.holdConflicts p (unitOfOffset copy header.offset) (header.specific % 128) = true then
      s.refuseHold p header copy .holdConflict .holdConflict (some (unitOfOffset copy header.offset))
    else
      match s.freeHold with
      | some h => s.grantHold p header copy h
      | none => s.refuseHold p header copy .holdExhausted .holdExhausted (some (unitOfOffset copy header.offset)) := by
  simp only [State.judgeHold, spanField_eq, inBounds, State.holdsExhausted, Bool.not_eq_true', decide_eq_false_iff_not,
    Nat.not_le, decide_eq_true_eq]
  rfl

variable {s p header copy}

/-- A HOLD_OPEN that meets every check is granted the lowest-numbered FREE hold (R131). -/
theorem judgeHold_of_granted {h : HoldId} (aligned : header.offset % 16 = 0) (wide : 1 ≤ header.specific % 128)
    (few : header.specific % 128 ≤ 64) (bounds : header.offset / 16 + header.specific % 128 ≤ copy.limit.toNat + 1)
    (room : s.activeHolds < 16) (own : s.ownedHolds p < 4)
    (clear : s.holdConflicts p (unitOfOffset copy header.offset) (header.specific % 128) = false)
    (free : s.hold h = none) (first : ∀ g, g < h → s.hold g ≠ none) :
    s.judgeHold p header copy = s.grantHold p header copy h := by
  have found : s.freeHold = some h :=
    find_allHolds (by rw [free]; rfl) fun g before =>
      Option.isNone_eq_false_iff.2 (Option.isSome_iff_ne_none.2 (first g before))
  rw [judgeHold_eq, if_neg (not_not.2 aligned), if_neg (by omega), if_neg (by omega), if_neg (by omega),
    if_neg (by rw [clear]; decide), found]

end

/-! ### HOLD_RELEASE -/

theorem parkingHold_active {s : State} {p : PortId} {first : UnitAddr} {length : Nat} {h : HoldId}
    (found : s.parkingHold p first length = some h) : s.hold h ≠ none := fun free => by
  have test := List.find?_some found
  rw [free] at test
  cases test

/-- The re-test of a hold that has become FREE leaves no entry parked on it (R134). -/
theorem retestEntry_parkedOn {s : State} {h : HoldId} (free : s.hold h = none) (entry : Entry) :
    (s.retestEntry h entry).parkedOn ≠ some h := by
  unfold State.retestEntry
  split
  · exact fun found => parkingHold_active found free
  · next other => exact other

theorem endHold_release {s : State} {h : HoldId} {hold : Hold} (found : s.hold h = some hold) :
    s.endHold h .release = (s.setHold h none).retest h := by
  simp only [State.endHold, found, State.reportHoldEnd]

/-- A hold that ends is parked on by no entry (R134). -/
theorem unparked_release {s : State} {h : HoldId} {hold : Hold} (found : s.hold h = some hold) (b : BankId) :
    ∀ entry ∈ ((s.endHold h .release).bank b).queue, entry.parkedOn ≠ some h := by
  rw [endHold_release found, State.retest, State.bank_mapBanks, retestBank_queue]
  intro entry mem
  obtain ⟨before, -, rfl⟩ := List.mem_map.1 mem
  exact retestEntry_parkedOn (State.hold_setHold_same ..) before

theorem takeHoldRelease_of_own {s : State} {p : PortId} {header : Header} {hold : Hold}
    (found : s.hold (holdField header) = some hold) (own : hold.owner = p) : s.takeHoldRelease p header =
      (s.endHold (holdField header) .release).answer p { tag := header.tag, status := .ok } :=
  if_pos (by rw [found]; exact decide_eq_true own)

theorem takeHoldRelease_of_other {s : State} {p : PortId} {header : Header}
    (other : ∀ hold, s.hold (holdField header) = some hold → hold.owner ≠ p) : s.takeHoldRelease p header =
      (s.answer p { tag := header.tag, status := .noHold }).offer
        { code := .noHold, port := some p, tag := some header.tag } := by
  refine if_neg ?_
  cases found : s.hold (holdField header) with
  | none => simp
  | some hold => simpa using other hold found

/-! ### The rows -/

section
variable {s : State} {p : PortId} {body : List Byte} {rest : List (List Byte)} (takes : s.Takes p body rest)
include takes

theorem exec_holdOpen (pass : s.Passes p body .holdOpen) :
    exec (.holdOpen p) s = .next (s.takeHoldOpen p (headerOf body)) :=
  exec_of_passes takes pass (by decide) (by rw [State.takeKind, pass.1]) (still_takeHoldOpen ..)

theorem exec_holdRelease (pass : s.Passes p body .holdRelease) :
    exec (.holdRelease p) s = .next (s.takeHoldRelease p (headerOf body)) :=
  exec_of_passes takes pass (by decide) (by rw [State.takeKind, pass.1]) (still_takeHoldRelease ..)

/-- A HOLD_OPEN whose slot is not BOUND (R96). -/
theorem exec_holdOpen_of_refused (pass : s.Passes p body .holdOpen) {refused : Refused}
    (slot : slotCheck (s.slot p (headerOf body).slot) = .error refused) : exec (.holdOpen p) s =
      .next ((s.answer p { tag := (headerOf body).tag, status := refused.status }).offer
        (requestOffer refused.code p (headerOf body) refused.aperture)) := by
  rw [exec_holdOpen takes pass, State.takeHoldOpen, slot]

end

/-- Settles O29: the checks in their order, the grant where none applies, and the release. -/
theorem holdOpenGrantsAndReleaseEnds : Obligations.HoldOpenGrantsAndReleaseEnds := by
  refine ⟨fun s p body rest copy h takes pass => ?_, fun s p body rest takes pass => ?_, fun s p body rest takes pass => ?_⟩
  · intro header span requested first granted bound write aligned wide few bounds room own clear free lowest
    rw [exec_holdOpen takes pass, takeHoldOpen_of_bound s p copy pass.1 bound, if_neg (by rw [write]; decide),
      judgeHold_of_granted aligned wide few bounds room own clear free lowest, State.grantHold, grantedDuration_eq,
      durationField_eq, spanField_eq]
    rfl
  · refine ⟨fun slot => ?_, fun slot => ?_, fun copy slot => ?_, fun copy slot => ?_⟩
    · have row := exec_holdOpen_of_refused takes pass (congrArg slotCheck slot)
      exact row
    · have row := exec_holdOpen_of_refused takes pass (congrArg slotCheck slot)
      exact row
    · have row := exec_holdOpen_of_refused takes pass (congrArg slotCheck slot)
      exact row
    · have row := exec_holdOpen takes pass
      rw [takeHoldOpen_of_bound s p copy pass.1 slot, judgeHold_eq] at row
      refine ite_of_outcome (f := .next) row fun row => ite_of_outcome (f := .next) row fun row =>
        ite_of_outcome (f := .next) row fun row => ite_of_outcome (f := .next) row fun row =>
        ite_of_outcome (f := .next) row fun row conflict => ?_
      exact row.trans (congrArg _ (if_pos conflict))
  · dsimp only
    rw [← holdField_eq]
    refine ⟨fun hold found own => ?_, fun other => ?_⟩
    · refine ⟨s.endHold (holdField (headerOf body)) .release, ?_, ?_, fun g other => ?_, unparked_release found, ?_⟩
      · rw [exec_holdRelease takes pass, takeHoldRelease_of_own found own]
      · rw [hold_endHold, if_pos rfl]
      · rw [hold_endHold, if_neg other]
      · rw [endHold_release found]
        rfl
    · rw [exec_holdRelease takes pass, takeHoldRelease_of_other other]

end Sys2Proof.Machine
end

section
/-! FENCE and the completion that answers it (R58), and in-band MGMT requests (R59, R167). -/

namespace Sys2Proof.Machine

/-! ### The OUTSTANDING tags of a port -/

theorem outstanding_eq_zero_iff (s : State) (p : PortId) :
    outstanding (s.port p) = 0 ↔ ∀ tag, s.tagHolder p tag = none := by
  simp only [outstanding, List.length_eq_zero_iff, List.filter_eq_nil_iff, Vector.mem_toList_iff, Vector.mem_iff_getElem,
    State.tagHolder, Fin.forall_iff]
  simp only [Option.not_isSome_iff_eq_none, forall_exists_index]
  exact ⟨fun free i small => free _ i small rfl, fun free _ i small held => held ▸ free i small⟩

/-- The tag is the port's only OUTSTANDING one (R58). -/
theorem onlyOutstanding_iff (port : Port) (tag : Tag) :
    onlyOutstanding port tag = true ↔ ∀ other : Tag, port.tags[other].isSome = decide (other = tag) := by
  simp [onlyOutstanding, List.all_eq_true, beq_iff_eq]

/-- The one tag of a list of tags that satisfies a condition. -/
theorem filter_tags_eq {test : Tag → Bool} {tag : Tag} (one : ∀ other, test other = decide (other = tag)) :
    (List.finRange 32).filter test = [tag] := by
  rw [List.filter_congr fun other _ => one other, List.filter_eq,
    List.count_eq_one_of_mem (List.nodup_finRange 32) (List.mem_finRange tag), List.replicate_one]

/-! ### The taking of a FENCE -/

section
variable {s : State} {p : PortId} {header : Header}

theorem takeFence_of_first (free : ∀ tag, s.tagHolder p tag = none) :
    s.takeFence p header = s.answer p { tag := header.tag, status := .ok } := if_pos ((outstanding_eq_zero_iff s p).2 free)

/-- A FENCE with a predecessor waits at the head (R58, R60). -/
theorem takeFence_of_waiting (held : ∃ tag, s.tagHolder p tag ≠ none) : s.takeFence p header =
    s.modPort p fun port => { port with head := .waitingFence, tags := port.tags.set header.tag (some .head) } := by
  have some : outstanding (s.port p) ≠ 0 := fun zero =>
    held.elim fun tag held => held ((outstanding_eq_zero_iff s p).1 zero tag)
  rw [State.takeFence, if_neg some]
  exact modPort_modPort ..

end

theorem exec_fence {s : State} {p : PortId} {body : List Byte} {rest : List (List Byte)} (takes : s.Takes p body rest)
    (pass : s.Passes p body .fence) : exec (.fence p) s = .next (s.takeFence p (headerOf body)) :=
  exec_of_passes takes pass (by decide) (by rw [State.takeKind, pass.1]) (still_takeFence ..)

/-! ### The completion that answers a FENCE -/

/-- The port that has a response more in its egress queue and a tag FREE (R48, R60). -/
def respondedPort (place : Nat) (r : Response) (port : Port) : Port :=
  { port with tags := port.tags.set r.tag none, egress := port.egress ++ [{ placed := place, response := r }] }

theorem port_respond_of_room {s : State} {p : PortId} (room : (s.port p).egress.length < 32) (r : Response) :
    (s.respond p r).port p = respondedPort s.order r (s.port p) := by
  have queued : s.respond p r = (s.modPort p (respondedPort s.order r)).nextPlace := by
    refine Eq.trans (if_pos room) ?_
    rw [State.setTag, modPort_modPort]
    rfl
  rw [queued]
  exact State.port_modPort_same s p (respondedPort s.order r)

/-- Settling an in-flight count leaves the ports but for their events and links (R82, R84). -/
theorem portTrained_settleInFlight (s : State) (i : ApIndex) (p : PortId) :
    PortTrained (s.port p) ((s.settleInFlight i).port p) := by
  rw [settleInFlight_eq]
  split
  · split
    · exact (trained_parityFail (s.dropInFlight i) i).ports p
    · split
      · exact ((reports_raiseFreed ((s.dropInFlight i).modEntry i freedEntry) _ i).ports p).trained
      · exact .refl _
  · exact .refl _

theorem portTrained_lowered (s : State) (entry : Entry) (p : PortId) :
    PortTrained (s.port p) ((s.lowered entry).port p) := by
  unfold State.lowered
  split
  · exact .refl _
  · exact portTrained_settleInFlight ..

/-- A port whose FENCE has been answered behind its last predecessor: no tag is OUTSTANDING and the FENCE has left (R58). -/
structure FenceAnswered (before : List QueuedResponse) (body : List Byte) (rest : List (List Byte)) (tag : Tag) (port : Port) :
    Prop where
  egress : ∃ last answer, port.egress = before ++ [last, answer] ∧ last.response.tag = tag ∧
    answer.response = { tag := (headerOf body).tag, status := .ok }
  tags : ∀ held : Tag, port.tags[held] = none
  head : port.head = .none
  fifo : port.fifo = rest

section
variable {before : List QueuedResponse} {body : List Byte} {rest : List (List Byte)} {tag : Tag} {port after : Port}

theorem FenceAnswered.trained (h : FenceAnswered before body rest tag port) (k : PortTrained port after) :
    FenceAnswered before body rest tag after := by
  obtain ⟨egress, tags, head, fifo⟩ := h
  rw [k.rest]
  exact ⟨egress, tags, head, fifo⟩

theorem FenceAnswered.prompted (h : FenceAnswered before body rest tag port) :
    FenceAnswered before body rest tag (promptPort port) := by
  have idle : promptPort port = port := if_neg (by rw [h.head]; decide)
  rw [idle]
  exact h

end

/-- The response that a service gives for its entry (R119, step 3). -/
def Served.response (served : Served) (entry : Entry) : Response :=
  { tag := entry.tag, status := served.status, compareEqual := served.compareEqual, payload := served.payload }

theorem reported_of_own (served : Served) {entry : Entry} (live : entry.discarded = false) :
    served.reported entry = (served.state.offerAll served.offers).respond entry.port (served.response entry) := by
  rw [Served.reported, State.respondServed, live]
  rfl

/-- A FENCE waits at the head of port `p` for this tag, the only other one that is OUTSTANDING (R58). -/
structure AwaitsTag (s : State) (p : PortId) (body : List Byte) (rest : List (List Byte)) (tag : Tag) : Prop where
  head : (s.port p).head = .waitingFence
  fifo : (s.port p).fifo = body :: rest
  other : tag ≠ (headerOf body).tag
  tags : ∀ held, (s.tagHolder p held).isSome = decide (held = tag ∨ held = (headerOf body).tag)

section
variable {s : State} {p : PortId} {body : List Byte} {rest : List (List Byte)} {tag : Tag}
  (awaits : AwaitsTag s p body rest tag)
include awaits

theorem AwaitsTag.of_reports {t : State} (told : PortReports (s.port p) (t.port p)) : AwaitsTag t p body rest tag := by
  refine ⟨?_, ?_, awaits.other, fun held => ?_⟩
  · rw [told]; exact awaits.head
  · rw [told]; exact awaits.fifo
  · rw [State.tagHolder, told]; exact awaits.tags held

theorem AwaitsTag.not_due : fenceDue (s.port p) = false := by
  refine Bool.eq_false_iff.2 fun due => ?_
  simp only [fenceDue, awaits.head, awaits.fifo] at due
  have own := (onlyOutstanding_iff _ _).1 due tag
  have held := awaits.tags tag
  rw [decide_eq_false awaits.other] at own
  rw [decide_eq_true (.inl rfl)] at held
  exact absurd (held.symm.trans own) (by decide)

theorem AwaitsTag.fenceAwaits : fenceAwaits (s.port p) = some tag := by
  have others : otherTags (s.port p) (headerOf body).tag = [tag] := filter_tags_eq fun held => by
    have holder : (s.port p).tags[held].isSome = decide (held = tag ∨ held = (headerOf body).tag) := awaits.tags held
    have other := awaits.other
    rw [holder, ← Bool.decide_and, decide_eq_decide]
    grind
  rw [Machine.fenceAwaits, if_pos awaits.head, awaits.fifo, List.headD_cons, others]

/-- The event that answers the last predecessor of a FENCE is the completion of its service (R58). -/
theorem AwaitsTag.answerFence {b : BankId} (serves : s.servesTag p tag b = true) :
    ∃ c entry scrub log, s.served c = some (entry, scrub, log) ∧ entry.port = p ∧ entry.tag = tag ∧
      entry.discarded = false ∧ s.answerFence p = s.completeEntry c entry scrub log := by
  have answer : s.answerFence p = s.answerTag p tag := by
    rw [State.answerFence, awaits.not_due, awaits.fenceAwaits]
    rfl
  cases found : allBanks.find? (s.servesTag p tag) with
  | none => exact absurd serves (by simpa using List.find?_eq_none.1 found b (mem_allBanks b))
  | some c =>
    have serving := List.find?_some found
    cases work : s.served c with
    | none => rw [State.servesTag, work] at serving; cases serving
    | some service =>
      obtain ⟨entry, scrub, log⟩ := service
      simp only [State.servesTag, work, Option.any_some, Bool.and_eq_true, decide_eq_true_eq, Bool.not_eq_true'] at serving
      obtain ⟨⟨port, own⟩, live⟩ := serving
      exact ⟨c, entry, scrub, log, work, port, own, live, by simp only [answer, State.answerTag, found, work]⟩

/-- The response to the last predecessor leaves the tag of the FENCE the only OUTSTANDING one (R58). -/
theorem AwaitsTag.tags_responded {r : Response} (named : r.tag = tag) (place : Nat) (held : Tag) :
    (respondedPort place r (s.port p)).tags[held].isSome = decide (held = (headerOf body).tag) := by
  have holder : (s.port p).tags[held].isSome = decide (held = tag ∨ held = (headerOf body).tag) := awaits.tags held
  have freed : (respondedPort place r (s.port p)).tags[held] = if tag = held then none else (s.port p).tags[held] := by
    simp only [respondedPort, named, Fin.getElem_fin, Vector.getElem_set, Fin.ext_iff]
  rw [freed]
  split
  · next same => rw [← same, decide_eq_false awaits.other, Option.isSome_none]
  · next other => rw [holder, decide_eq_decide, or_iff_right (Ne.symm other)]

theorem AwaitsTag.due_responded {r : Response} (named : r.tag = tag) (place : Nat) :
    fenceDue (respondedPort place r (s.port p)) = true := by
  have head : (respondedPort place r (s.port p)).head = .waitingFence := awaits.head
  have fifo : (respondedPort place r (s.port p)).fifo = body :: rest := awaits.fifo
  have alone := (onlyOutstanding_iff _ _).2 (awaits.tags_responded named place)
  simp only [fenceDue, head, fifo, alone]

/-- The answer of the FENCE goes behind the response of its last predecessor (R48, R58). -/
theorem AwaitsTag.answered_fenceTest (few : (s.port p).egress.length ≤ 30) {r : Response} (named : r.tag = tag) {t : State}
    {place : Nat} (responded : t.port p = respondedPort place r (s.port p)) :
    FenceAnswered (s.port p).egress body rest tag ((t.fenceTest p).port p) := by
  have due : fenceDue (t.port p) = true := by rw [responded]; exact awaits.due_responded named place
  have egress : (t.port p).egress = (s.port p).egress ++ [{ placed := place, response := r }] := by rw [responded]; rfl
  have fifo : (t.port p).fifo = body :: rest := by rw [responded]; exact awaits.fifo
  have tags (held : Tag) : (t.port p).tags[held].isSome = decide (held = (headerOf body).tag) := by
    rw [responded]; exact awaits.tags_responded named place held
  have room : (t.port p).egress.length < 32 := by rw [egress, List.length_append, List.length_singleton]; omega
  have answered : (t.fenceTest p).port p =
      answeredPort t.order { tag := (headerOf body).tag, status := .ok } (t.port p) := by
    rw [State.fenceTest, if_pos due, answer_of_room room, fifo, List.headD_cons]
    exact State.port_modPort_same { t with order := t.order + 1 } p _
  rw [answered]
  refine ⟨⟨{ placed := place, response := r }, { placed := t.order, response := _ }, ?_, named, rfl⟩, fun held => ?_, rfl,
    ?_⟩
  · rw [answeredPort, egress, List.append_assoc]
    rfl
  · have left := tags held
    simp only [answeredPort, Fin.getElem_fin, Vector.getElem_set]
    split
    · rfl
    · next other =>
      have differs : held ≠ (headerOf body).tag := fun same => other (by rw [same])
      rw [decide_eq_false differs] at left
      exact Option.not_isSome_iff_eq_none.1 (Bool.eq_false_iff.1 left)
  · rw [answeredPort, fifo, List.tail_cons]

/-- The port after the completion of the last predecessor of its FENCE (R58, R119). -/
theorem AwaitsTag.answered_completion (few : (s.port p).egress.length ≤ 30) {entry : Entry} (own : entry.port = p)
    (named : entry.tag = tag) (live : entry.discarded = false) (b : BankId) (scrub log : Bool) :
    FenceAnswered (s.port p).egress body rest tag ((s.completeEntry b entry scrub log).port p) := by
  have kept := serveKept_serve s b entry scrub log
  rw [completeEntry_eq]
  generalize s.serve b entry scrub log = served at kept
  subst own
  have offered := port_offered kept entry.port
  have before : ((served.state.offerAll served.offers).port entry.port).egress = (s.port entry.port).egress := by rw [offered]
  have responded := port_respond_of_room (s := served.state.offerAll served.offers) (p := entry.port)
    (by rw [before]; omega) (served.response entry)
  rw [← reported_of_own served live] at responded
  have answered := (awaits.of_reports offered).answered_fenceTest (by rw [before]; exact few) (r := served.response entry)
    named (t := (served.reported entry).modBank b (leaveQueue entry.position)) responded
  rw [before] at answered
  rw [State.port_promptAttempts]
  exact (answered.trained (portTrained_lowered ..)).prompted

end

/-- Settles O30: by the predecessors, and the completion of the last of them. -/
theorem fenceAnsweredOrWaits : Obligations.FenceAnsweredOrWaits := by
  refine ⟨fun s p body rest takes pass => ⟨fun free => ?_, fun held => ?_⟩,
    fun s p body rest b entry scrub log settled head fifo serving own live other tags few => ?_⟩
  · rw [exec_fence takes pass, takeFence_of_first free]
  · rw [exec_fence takes pass, takeFence_of_waiting held]
    exact ⟨_, rfl, onlyPort_modPort .., State.port_modPort_same ..⟩
  · have awaits : AwaitsTag s p body rest entry.tag := ⟨head, fifo, other, tags⟩
    have serves : s.servesTag p entry.tag b = true := by simp [State.servesTag, serving, own, live]
    obtain ⟨c, last, scrub, log, -, port, named, kept, answer⟩ := awaits.answerFence serves
    obtain ⟨⟨first, second, egress, first_tag, second_response⟩, free, idle, left⟩ :=
      awaits.answered_completion few port named kept c scrub log
    have row : exec (.fenceAnswer p) s = .next (s.completeEntry c last scrub log) := by
      rw [← answer]
      exact congrArg (fun t : State => Host.Outcome.next (t.answerFence p)) (settle_of_settled settled)
    exact ⟨_, first, second, row, egress, first_tag, second_response, free, idle, left⟩

/-! ### MGMT -/

/-- The checks of an in-band MGMT request in their order, and its command at the tail of the queue (R59, R60, R167). -/
theorem takeMgmt_eq {s : State} {p : PortId} {header : Header} {body first : List Byte} {rest : List (List Byte)}
    (fifo : (s.port p).fifo = first :: rest) : s.takeMgmt p header body =
      if (s.port p).config.mgmtCapable = false then s.denyMgmt p header .deniedPort
      else if (s.port p).config.tier ≠ 0 then s.denyMgmt p header .deniedTier
      else if 8 ≤ s.mgmt.queue.length then s.answer p { tag := header.tag, status := .mgmtBusy }
      else
        { (s.modPort p fun port =>
            { port with fifo := rest, head := .none, attemptDue := false, tags := port.tags.set header.tag (some .mgmt) }) with
          mgmt := { s.mgmt with
            queue := s.mgmt.queue ++ [{ source := .port p header.tag, block := body.drop 8, placed := s.order }] }
          order := s.order + 1 } := by
  have taken : s.modPort p (takenPort header.tag .mgmt) = s.modPort p fun port =>
      { port with fifo := rest, head := .none, attemptDue := false, tags := port.tags.set header.tag (some .mgmt) } :=
    modPort_congr (by rw [takenPort, fifo, List.tail_cons])
  rw [← taken]
  simp only [State.takeMgmt, popHead_setTag, Bool.not_eq_true']
  rfl

theorem exec_mgmt {s : State} {p : PortId} {body : List Byte} {rest : List (List Byte)} (takes : s.Takes p body rest)
    (pass : s.Passes p body .mgmt) : exec (.mgmt p) s = .next (s.takeMgmt p (headerOf body) body).drainEvent := by
  have row := exec_takingOf takes
  rw [takeHead_of_passes takes pass, State.takeKind, pass.1] at row
  exact row

/-- Settles O31: the checks in their order. -/
theorem mgmtIsQueuedOrRefused : Obligations.MgmtIsQueuedOrRefused := by
  intro s p body rest takes pass
  have ⟨_, fifo, _⟩ := takes
  have row := exec_mgmt takes pass
  rw [takeMgmt_eq fifo] at row
  refine ite_of_outcome (f := fun t => .next t.drainEvent) row fun row =>
    ite_of_outcome (f := fun t => .next t.drainEvent) row fun row =>
    ite_of_outcome (f := fun t => .next t.drainEvent) row fun row => row

end Sys2Proof.Machine
end

section
/-! The execution of a management command: its decoding and permission, its outcome with its record and its result, and the SPI
command slot (R64, R153, R164, R168 to R171). -/

namespace Sys2Proof.Machine

/-! ### Decoding (Table 10-5) -/

/-- The code of a command (Table 10-5). -/
def commandCode : Command → Nat
  | .regRead => 1
  | .regWrite => 2
  | .apertureCreate => 3
  | .apertureModify => 4
  | .apertureRetire => 5
  | .apertureRead => 6
  | .portConfig => 7
  | .portReset => 8
  | .logPop => 9
  | .logPeek => 10
  | .logClear => 11
  | .profileStage => 12
  | .profileCommit => 13
  | .quiesce => 14
  | .resume => 15
  | .datapathReset => 16
  | .holdBreak => 17
  | .injectEcc => 18
  | .halt => 19

theorem commandOf_commandCode (which : Command) : commandOf (commandCode which) = some which := by cases which <;> rfl

theorem commandCode_of_commandOf {code : Nat} {which : Command} (h : commandOf code = some which) :
    code = commandCode which := by
  unfold commandOf at h
  split at h <;> cases h <;> rfl

theorem commandOf_eq_some_iff {code : Nat} {which : Command} : commandOf code = some which ↔ code = commandCode which :=
  ⟨commandCode_of_commandOf, fun code => code ▸ commandOf_commandCode which⟩

theorem commandCode_range (which : Command) : 1 ≤ commandCode which ∧ commandCode which ≤ 19 := by cases which <;> decide

theorem commandOf_outside {code : Nat} (h : code = 0 ∨ 19 < code) : commandOf code = none :=
  Option.eq_none_iff_forall_ne_some.2 fun which named => by
    have range := commandCode_range which
    rw [← commandCode_of_commandOf named] at range
    omega

theorem four_le_blockLength (which : Command) : 4 ≤ blockLength which := by cases which <;> decide

/-- A block decodes to the command that its code names, where it has that command's length (R169). -/
theorem blockCommand_iff {block : List Byte} {which : Command} : blockCommand block = some which ↔
    commandOf (byteAt block 0).toNat = some which ∧ block.length = blockLength which := by
  have long := four_le_blockLength which
  unfold blockCommand namedCommand
  by_cases short : block.length < 4
  · simp only [short, if_true, reduceCtorEq, false_iff, not_and]
    omega
  · rw [if_neg short]
    cases commandOf (byteAt block 0).toNat with
    | none => simp
    | some command =>
      simp only [Option.ite_none_right_eq_some, Option.some.injEq]
      exact ⟨fun ⟨length, same⟩ => ⟨same, same ▸ length⟩, fun ⟨same, length⟩ => ⟨same ▸ length, same⟩⟩

theorem namedCommand_eq_none {block : List Byte}
    (h : block.length < 4 ∨ (byteAt block 0).toNat = 0 ∨ 19 < (byteAt block 0).toNat) : namedCommand block = none := by
  rcases h with short | outside
  · exact if_pos short
  · rw [namedCommand, commandOf_outside outside, ite_self]

theorem blockCommand_of_unnamed {block : List Byte} (h : namedCommand block = none) : blockCommand block = none := by
  rw [blockCommand, h]

/-! ### Permission (Table 10-4) -/

theorem permitted_iff (which : Command) (device : DevState) : permitted which device = true ↔
    match device with
    | .reset | .calibrating => False
    | .unconfigured | .initializing => which ∉ [.resume, .quiesce, .datapathReset, .holdBreak]
    | .ready => True
    | .draining _ => which ∉ [.profileCommit, .quiesce]
    | .quiescent => which ∉ [.quiesce, .datapathReset, .holdBreak]
    | .halted => which ∈ [.regRead, .apertureRead, .logPop, .logPeek, .logClear] := by
  cases device with
  | reset | calibrating | unconfigured | initializing | ready | quiescent | halted => cases which <;> decide
  | draining reason => cases which <;> simp [permitted]

/-! ### Rejected commands (R169, R171) -/

theorem execute_of_undecoded {s : State} {command : QueuedCommand} (h : blockCommand command.block = none) :
    s.execute command = s.popped.concluded command (.rejected .badDescriptor) := by
  simp only [State.execute, State.runBlock, h]

theorem execute_of_forbidden {s : State} {command : QueuedCommand} {which : Command}
    (h : blockCommand command.block = some which) (forbidden : permitted which s.device = false) :
    s.execute command = s.popped.concluded command (.rejected .wrongState) := by
  simp only [State.execute, State.runBlock, h, State.modMgmt_device, forbidden, Bool.false_eq_true, if_false]

/-! ### The queue and the SPI command slot (R164) -/

theorem promoteSpi_slot (m : Mgmt) : (promoteSpi m).spiSlot =
    if m.spiSlot = .queued ∧ m.queue.head?.map QueuedCommand.source = some .spi then .executing else m.spiSlot := by
  unfold promoteSpi
  split
  · next command rest slot queue => simp [slot, queue, apply_ite Mgmt.spiSlot]
  · next other =>
    refine (if_neg fun ⟨slot, head⟩ => ?_).symm
    cases queue : m.queue with
    | nil => rw [queue] at head; cases head
    | cons command rest => exact other command rest slot queue

theorem popped_eq (s : State) : s.popped =
    { s with mgmt := { s.mgmt with
      queue := s.mgmt.queue.tail
      spiSlot :=
        if s.mgmt.spiSlot = .queued ∧ s.mgmt.queue.tail.head?.map QueuedCommand.source = some .spi then .executing
        else s.mgmt.spiSlot } } := by
  rw [State.popped, State.modMgmt, popCommand, promoteSpi_eq, promoteSpi_slot]

/-! ### The record and the result (R153, R170) -/

theorem resultBlock_eq (block : List Byte) (status : Status) (detail : Option Detail) (data : List Byte) :
    resultBlock block status detail data = [block.getD 0 0, BitVec.ofNat 8 (statusCode status),
      BitVec.ofNat 8 ((detail.map detailCode).getD 0), 0] ++ data ++ List.replicate (16 - data.length) 0 := by
  have filled : 20 - (data.length + 1 + 1 + 1 + 1) = 16 - data.length := by omega
  simp only [resultBlock, padded, byteAt, detailByte, List.cons_append, List.nil_append, List.length_cons, filled]

/-- The aperture index that a record names is that of an aperture command (R153). -/
theorem recordIndex_eq (block : List Byte) : recordIndex block =
    if blockCommand block ∈ [some .apertureCreate, some .apertureModify, some .apertureRetire, some .apertureRead] ∧
      numberAt block 4 2 ≤ 1023 then some (Fin.ofNat 1024 (numberAt block 4 2)) else none := by
  unfold recordIndex
  cases blockCommand block with
  | none => simp
  | some which => cases which <;> simp [isApertureCommand]

/-- The MANAGEMENT record of a code (R153). -/
def outcomeOffer (source : Source) (block : List Byte) (code : FaultCode) : Offer :=
  { code := code, port := senderPort source, tag := senderTag source, aperture := recordIndex block }

theorem reports_recordOutcome (s : State) (source : Source) (block : List Byte) (outcome : Outcome) :
    Reports s (s.recordOutcome source block outcome) := by
  unfold State.recordOutcome
  split
  · exact reports_offer ..
  · exact .refl s

/-- The response that carries a result in-band (R170). -/
def resultResponse (block : List Byte) (tag : Tag) (outcome : Outcome) : Response :=
  { tag := tag, status := outcomeStatus outcome, detail := outcomeDetail outcome,
    payload := resultBlock block (outcomeStatus outcome) (outcomeDetail outcome) (outcomeData outcome) }

section
variable {s : State} {p : PortId} {tag : Tag} (block : List Byte) (outcome : Outcome)

theorem deliver_of_held (held : s.tagHolder p tag = some .mgmt) :
    s.deliver (.port p tag) block outcome = (s.respond p (resultResponse block tag outcome)).fenceTest p := if_pos held

theorem deliver_of_torn (torn : s.tagHolder p tag ≠ some .mgmt) : s.deliver (.port p tag) block outcome = s := if_neg torn

end

/-- A response that finds the egress queue full is lost (R48). -/
theorem respond_of_full {s : State} {p : PortId} (full : 32 ≤ (s.port p).egress.length) (r : Response) : s.respond p r =
    ((s.setTag p r.tag none).offer { code := .responseLost, port := some p, tag := some r.tag }).raise p
      (.protocolError r.tag .responseLost) := if_neg (Nat.not_lt.2 full)

theorem egress_respond_of_full {s : State} {p : PortId} (full : 32 ≤ (s.port p).egress.length) (r : Response) :
    ((s.respond p r).port p).egress = (s.port p).egress := by
  rw [respond_of_full full, ((reports_offer ..).trans (reports_raise ..)).steady.egress, egress_setTag]

/-- A response frees its tag, whether it is queued or lost (R60). -/
theorem tag_respond (s : State) (p : PortId) (r : Response) : (s.respond p r).tagHolder p r.tag = none := by
  by_cases room : (s.port p).egress.length < 32
  · obtain ⟨-, tags, -⟩ := respond_of_room room r
    rw [tags, if_pos rfl]
  · rw [respond_of_full (Nat.not_lt.1 room), ((reports_offer ..).trans (reports_raise ..)).tagHolder,
      State.tagHolder_setTag, if_pos ⟨rfl, rfl⟩]

theorem egress_fenceTest_of_full {s : State} {p : PortId} (full : 32 ≤ (s.port p).egress.length) :
    ((s.fenceTest p).port p).egress = (s.port p).egress := by
  unfold State.fenceTest
  split
  · rw [State.answer, egress_respond_of_full (by rw [egress_popHead]; exact full), egress_popHead]
  · rfl

/-! ### The end of an execution -/

section
variable {s : State} (command : QueuedCommand) (outcome : Outcome)

theorem concluded_of_settled (settled : s.ParitySettled) : s.concluded command outcome =
    ((s.recordOutcome command.source command.block outcome).deliver command.source command.block
      outcome).promptAttempts := by
  rw [State.concluded, finishParity_of_settled settled]

variable {p : PortId} {tag : Tag}

/-- A result delivered in-band frees the tag of its command and is the next response of its port (R48, R60, R170). -/
theorem concluded_of_held (settled : s.ParitySettled) (source : command.source = .port p tag)
    (held : s.tagHolder p tag = some .mgmt) :
    (s.concluded command outcome).tagHolder p tag = none ∧
    ((s.port p).egress.length < 32 → (s.port p).egress ++ [{
      placed := (s.recordOutcome command.source command.block outcome).order,
      response := resultResponse command.block tag outcome }] <+: ((s.concluded command outcome).port p).egress) ∧
    (32 ≤ (s.port p).egress.length → ((s.concluded command outcome).port p).egress = (s.port p).egress) := by
  rw [concluded_of_settled command outcome settled]
  have told := reports_recordOutcome s command.source command.block outcome
  generalize s.recordOutcome command.source command.block outcome = recorded at told
  rw [source, deliver_of_held _ _ (by rw [told.tagHolder]; exact held)]
  have tested := appends_fenceTest (recorded.respond p (resultResponse command.block tag outcome)) p
  have quiet := quiet_promptAttempts ((recorded.respond p (resultResponse command.block tag outcome)).fenceTest p)
  have before := told.steady.egress p
  refine ⟨(quiet.tags ..).trans (tested.tags _ (tag_respond ..)), fun room => ?_, fun full => ?_⟩
  · obtain ⟨queued, -, -⟩ := respond_of_room (by rw [before]; exact room) (resultResponse command.block tag outcome)
    rw [quiet.egress, ← before, ← queued]
    exact tested.egress
  · have lost := egress_respond_of_full (by rw [before]; exact full) (resultResponse command.block tag outcome)
    rw [quiet.egress, egress_fenceTest_of_full (by rw [lost, before]; exact full), lost, before]

theorem concluded_of_torn (settled : s.ParitySettled) (source : command.source = .port p tag)
    (torn : s.tagHolder p tag ≠ some .mgmt) :
    s.concluded command outcome = (s.recordOutcome command.source command.block outcome).promptAttempts := by
  have told := reports_recordOutcome s command.source command.block outcome
  rw [concluded_of_settled command outcome settled]
  generalize s.recordOutcome command.source command.block outcome = recorded at told
  rw [source, deliver_of_torn _ _ (by rw [told.tagHolder]; exact torn)]

/-- The end of an execution leaves the queue, and takes the SPI command slot to DONE where the command came over SPI (R166,
R170). -/
theorem mgmt_concluded : (s.concluded command outcome).mgmt.queue = s.mgmt.queue ∧
    (s.concluded command outcome).mgmt.spiSlot = if command.source = .spi then .done else s.mgmt.spiSlot := by
  have recorded : (s.finishParity.recordOutcome command.source command.block outcome).mgmt = s.mgmt :=
    (reports_recordOutcome ..).mgmt.trans (trained_finishParity s).mgmt
  rw [State.concluded, (quiet_promptAttempts _).mgmt]
  generalize s.finishParity.recordOutcome command.source command.block outcome = ended at recorded
  rw [← recorded]
  cases command.source with
  | spi => exact ⟨rfl, rfl⟩
  | port p tag =>
    have front : (ended.deliver (.port p tag) command.block outcome).mgmt = ended.mgmt := by
      unfold State.deliver
      dsimp only
      split
      · exact ((fronted_respond ..).trans (fronted_fenceTest ..)).mgmt
      · rfl
    rw [front]
    exact ⟨rfl, rfl⟩

end

/-- The slot state that the removal of the head leaves to describe the one SPI command of the queue or its absence (R164). -/
theorem spiSlotKept_of_popped {s t : State} {command : QueuedCommand} (kept : s.SpiSlotKept)
    (head : s.mgmt.queue.head? = some command) (queue : t.mgmt.queue = s.popped.mgmt.queue)
    (slot : t.mgmt.spiSlot = if command.source = .spi then .done else s.popped.mgmt.spiSlot) : t.SpiSlotKept := by
  obtain ⟨one, executing, queued⟩ := kept
  obtain ⟨rest, whole⟩ : ∃ rest, s.mgmt.queue = command :: rest := by
    cases queue : s.mgmt.queue with
    | nil => rw [queue] at head; cases head
    | cons first rest => rw [queue] at head; cases head; exact ⟨rest, rfl⟩
  have tail : s.mgmt.queue.tail = rest := by rw [whole, List.tail_cons]
  rw [popped_eq] at queue slot
  dsimp only at queue slot
  rw [tail] at queue slot
  rw [whole] at one executing queued
  simp only [List.head?_cons, Option.map_some, Option.some.injEq, List.mem_cons, exists_eq_or_imp,
    List.filter_cons] at one executing queued
  have head_mem : rest.head?.map QueuedCommand.source = some .spi → ∃ other ∈ rest, other.source = .spi := by
    cases rest with
    | nil => intro none; cases none
    | cons first others => intro spi; exact ⟨first, List.mem_cons_self, by simpa using spi⟩
  by_cases spi : command.source = .spi
  · have alone : rest.filter (fun other => decide (other.source = .spi)) = [] := by simpa [spi] using one
    have absent : ¬∃ other ∈ rest, other.source = .spi := by simpa using List.filter_eq_nil_iff.1 alone
    rw [if_pos spi] at slot
    refine ⟨?_, ?_, ?_⟩ <;> rw [queue]
    · rw [alone]
      exact Nat.zero_le 1
    · rw [slot]
      exact iff_of_false nofun fun next => absent (head_mem next)
    · rw [slot]
      exact iff_of_false nofun fun ⟨present, _⟩ => absent present
  · have idle : s.mgmt.spiSlot ≠ .executing := fun runs => spi (executing.1 runs)
    have waits : s.mgmt.spiSlot = .queued ↔ ∃ other ∈ rest, other.source = .spi := by simpa [spi] using queued
    have few : (rest.filter fun other => decide (other.source = .spi)).length ≤ 1 := by simpa [spi] using one
    rw [if_neg spi] at slot
    by_cases moves : s.mgmt.spiSlot = .queued ∧ rest.head?.map QueuedCommand.source = some .spi
    · rw [if_pos moves] at slot
      refine ⟨?_, ?_, ?_⟩ <;> rw [queue]
      · exact few
      · exact iff_of_true slot moves.2
      · rw [slot]
        exact iff_of_false nofun fun ⟨_, behind⟩ => behind moves.2
    · rw [if_neg moves] at slot
      refine ⟨?_, ?_, ?_⟩ <;> rw [queue]
      · exact few
      · rw [slot]
        exact iff_of_false idle fun next => moves ⟨waits.2 (head_mem next), next⟩
      · rw [slot]
        exact ⟨fun waiting => ⟨waits.1 waiting, fun next => moves ⟨waiting, next⟩⟩, fun ⟨present, _⟩ => waits.2 present⟩

/-! ### The statement -/

/-- Settles O41: the queue and the slot, decoding and permission, the rejected commands, and the end of an execution by the
source of its command. -/
theorem executionRejectsAndDelivers : Obligations.ExecutionRejectsAndDelivers := by
  refine ⟨popped_eq, fun s command outcome kept head => ?_, fun block which => ?_, permitted_iff, fun s command heads => ?_,
    fun s command outcome settled => ?_, fun s => ⟨State.port_promptAttempts s, rfl⟩⟩
  · obtain ⟨queue, slot⟩ := mgmt_concluded (s := s.popped) command outcome
    exact spiSlotKept_of_popped kept head queue slot
  · rw [blockCommand_iff, commandOf_eq_some_iff]
    cases which <;> simp [commandCode, blockLength, byteAt]
  · refine ⟨fun unnamed => ?_, fun undecoded _ => execute_of_undecoded undecoded,
      fun which decoded forbidden => execute_of_forbidden decoded forbidden⟩
    have none := namedCommand_eq_none unnamed
    rw [← execute_of_undecoded (blockCommand_of_unnamed none),
      ← execution_of_heads (which := fun block => (namedCommand block).isNone) heads (by rw [none]; rfl)]
    rfl
  · intro status detail data result record recorded
    have status_eq : status = outcomeStatus outcome := by cases outcome <;> rfl
    have detail_eq : detail = outcomeDetail outcome := by cases outcome <;> rfl
    have data_eq : data = outcomeData outcome := by cases outcome <;> rfl
    have result_eq : result = resultBlock command.block status detail data := (resultBlock_eq ..).symm
    have record_eq : record = outcomeOffer command.source command.block := by
      funext code
      simp only [record, outcomeOffer, recordIndex_eq]
      cases command.source <;> rfl
    have recorded_eq : recorded = s.recordOutcome command.source command.block outcome := by
      cases outcome with
      | ok data => rfl
      | rejected why => cases why <;> simp only [recorded, record_eq] <;> rfl
      | selfTarget => simp only [recorded, record_eq]; rfl
    clear record_eq
    clear_value recorded record result data detail status
    subst status_eq detail_eq data_eq result_eq recorded_eq
    refine ⟨concluded_of_settled command outcome settled, fun source => ?_, fun p tag source held room => ?_,
      fun p tag source held full => ?_, fun p tag source torn => concluded_of_torn command outcome settled source torn⟩
    · rw [source]
      rfl
    · obtain ⟨free, queued, -⟩ := concluded_of_held command outcome settled source held
      exact ⟨free, queued room⟩
    · obtain ⟨free, -, lost⟩ := concluded_of_held command outcome settled source held
      exact ⟨free, lost full⟩

end Sys2Proof.Machine
end

section
/-! The binding counts under a change of a slot (R81). -/

namespace Sys2Proof.Machine

theorem cachesIndex_eq (slot : Slot) (i : ApIndex) : cachesIndex slot i = decide (slotIndex slot = some i) := by
  cases slot <;> simp [slotIndex]

/-- The binding count of the index that a slot caches changed, where it caches one (R81). -/
def State.countSlot (s : State) (slot : Slot) (change : Nat → Nat) : State :=
  match slotIndex slot with
  | some index => s.modEntry index fun entry => { entry with bindings := change entry.bindings }
  | none => s

theorem setSlot_eq_countSlot (s : State) (p : PortId) (k : SlotId) (new : Slot) : s.setSlot p k new =
    ((s.countSlot new (· + 1)).countSlot (s.slot p k) (· - 1)).modPort p fun port =>
      { port with slots := port.slots.set k new } := rfl

theorem entry_countSlot (s : State) (slot : Slot) (change : Nat → Nat) (i : ApIndex) : (s.countSlot slot change).entry i =
    { s.entry i with
      bindings := if cachesIndex slot i then change (s.entry i).bindings else (s.entry i).bindings } := by
  rw [cachesIndex_eq, State.countSlot]
  cases slotIndex slot with
  | none => rfl
  | some index =>
    rw [State.entry_modEntry]
    by_cases same : index = i
    · subst same; simp
    · simp [same]

theorem bindings_setSlot (s : State) (p : PortId) (k : SlotId) (new : Slot) (i : ApIndex) : (s.setSlot p k new).entry i =
    { s.entry i with
      bindings := (s.entry i).bindings + (cachesIndex new i).toNat - (cachesIndex (s.slot p k) i).toNat } := by
  rw [setSlot_eq_countSlot, State.entry_modPort, entry_countSlot, entry_countSlot]
  cases cachesIndex new i <;> cases cachesIndex (s.slot p k) i <;> rfl

theorem slot_setSlot (s : State) (p : PortId) (k : SlotId) (new : Slot) (q : PortId) (j : SlotId) :
    (s.setSlot p k new).slot q j = if p = q ∧ k = j then new else s.slot q j := by
  rw [State.slot, port_setSlot]
  by_cases port : p = q
  · subst port
    simp [State.slot, Vector.getElem_set, Fin.ext_iff]
  · simp [port, State.slot]

theorem slotChanged_setSlot (s : State) (p : PortId) (k : SlotId) (new : Slot) :
    SlotChanged p k new s (s.setSlot p k new) := by
  refine ⟨by simp [slot_setSlot], fun q j other => ?_, bindings_setSlot s p k new⟩
  rw [slot_setSlot, if_neg fun same => other.elim (fun port => port same.1.symm) fun slot => slot same.2.symm]

/-! ### The number of slots that name an index -/

/-- A count over distinct places, after the value at one of them has changed. -/
theorem countP_change {α : Type} [DecidableEq α] {list : List α} (nodup : list.Nodup) {a : α} (mem : a ∈ list) {f g : α → Bool}
    (others : ∀ x, x ≠ a → g x = f x) : list.countP g + (f a).toNat = list.countP f + (g a).toNat := by
  have front := List.perm_cons_erase mem
  have rest : (list.erase a).countP g = (list.erase a).countP f :=
    List.countP_congr fun x inside => by rw [others x (nodup.mem_erase_iff.1 inside).1]
  rw [front.countP_eq, front.countP_eq, List.countP_cons, List.countP_cons, rest]
  cases f a <;> cases g a <;> simp

theorem nodup_walkOrder : walkOrder.Nodup := by decide

theorem slotsNaming_eq_countP (s : State) (i : ApIndex) :
    s.slotsNaming i = walkOrder.countP fun place => cachesIndex (s.slot place.1 place.2) i := by
  simp only [State.slotsNaming, walkOrder, List.countP_eq_length_filter, List.filter_flatMap, List.length_flatMap, cachesIndex_eq,
    List.filter_map, List.length_map, Function.comp_def]

theorem slotsNaming_of_slotChanged {s t : State} {p : PortId} {k : SlotId} {new : Slot} (h : SlotChanged p k new s t) (i : ApIndex) :
    t.slotsNaming i + (cachesIndex (s.slot p k) i).toNat = s.slotsNaming i + (cachesIndex new i).toNat := by
  obtain ⟨own, others, -⟩ := h
  rw [slotsNaming_eq_countP, slotsNaming_eq_countP]
  have changed := countP_change nodup_walkOrder (mem_walkOrder p k) (f := fun place => cachesIndex (s.slot place.1 place.2) i)
    (g := fun place => cachesIndex (t.slot place.1 place.2) i) fun place other => by
      rw [others place.1 place.2 (Classical.not_and_iff_not_or_not.1 fun same => other (Prod.ext same.1 same.2))]
  rw [changed, own]

/-- A change of one slot that moves the binding counts with it keeps every count true (R81). -/
theorem bindingsCounted_of_slotChanged {s t : State} {p : PortId} {k : SlotId} {new : Slot} (h : SlotChanged p k new s t)
    (counted : s.BindingsCounted) : t.BindingsCounted := fun i => by
  have places := slotsNaming_of_slotChanged h i
  have ⟨_, _, table⟩ := h
  rw [table i]
  change (s.entry i).bindings + _ - _ = _
  rw [counted i]
  omega

end Sys2Proof.Machine
end

section
/-! The operations that leave the memory array, the unit health, the failed lookups that wait, the index that each slot caches and
the binding counts (R81, R85, R113). -/

namespace Sys2Proof.Machine

/-- What the invariants of memory, of the binding counts and of the failed lookups are about is as before. -/
structure Unmoved (s t : State) : Prop where
  memory : t.memory = s.memory
  health : t.health = s.health
  parityPending : t.parityPending = s.parityPending
  cached : ∀ p k, slotIndex (t.slot p k) = slotIndex (s.slot p k)
  bindings : ∀ i, (t.entry i).bindings = (s.entry i).bindings

theorem Unmoved.refl (s : State) : Unmoved s s := ⟨rfl, rfl, rfl, fun _ _ => rfl, fun _ => rfl⟩

theorem Unmoved.trans {a b c : State} (h : Unmoved a b) (k : Unmoved b c) : Unmoved a c :=
  ⟨k.memory.trans h.memory, k.health.trans h.health, k.parityPending.trans h.parityPending,
    fun p j => (k.cached p j).trans (h.cached p j), fun i => (k.bindings i).trans (h.bindings i)⟩

theorem unmoved_ite {c : Prop} [Decidable c] {s a b : State} (h : Unmoved s a) (k : Unmoved s b) :
    Unmoved s (if c then a else b) := by
  split
  · exact h
  · exact k

theorem unmoved_foldl {α : Type} {f : State → α → State} (h : ∀ s a, Unmoved s (f s a)) (list : List α) (s : State) :
    Unmoved s (list.foldl f s) :=
  List.foldlRecOn (motive := Unmoved s) _ _ (.refl s) fun _ k _ _ => k.trans (h _ _)

/-! ### From the frames that are known -/

theorem unmoved_of_slots {s t : State} (calm : Calm s t) (tables : TablesKept s t) (slots : ∀ p k, t.slot p k = s.slot p k) :
    Unmoved s t :=
  ⟨calm.memory, calm.health, tables.parityPending, fun p k => by rw [slots], fun i => by rw [tables.entry]⟩

theorem Reports.unmoved {s t : State} (h : Reports s t) : Unmoved s t :=
  ⟨h.memory, h.health, h.parityPending, fun p k => by rw [h.slot], fun i => by rw [h.entry]⟩

/-! ### Updates of the state -/

theorem slot_modPort (s : State) (p : PortId) (f : Port → Port) (h : ∀ port, (f port).slots = port.slots) (q : PortId)
    (k : SlotId) : (s.modPort p f).slot q k = s.slot q k := by
  have slots : ((s.modPort p f).port q).slots = (s.port q).slots := by
    rw [State.port_modPort]
    split
    · next same => subst same; exact h _
    · rfl
  simp only [State.slot, slots]

theorem unmoved_modPort (s : State) (p : PortId) (f : Port → Port) (h : ∀ port, (f port).slots = port.slots) :
    Unmoved s (s.modPort p f) :=
  ⟨rfl, rfl, rfl, fun q k => by rw [slot_modPort s p f h], fun _ => rfl⟩

theorem unmoved_modLink (s : State) (p : PortId) (f : Link → Link) : Unmoved s (s.modLink p f) := by
  have port := unmoved_modPort s p (fun port => { port with link := f (s.link p) }) (by intro; rfl)
  exact ⟨rfl, rfl, rfl, port.cached, fun _ => rfl⟩

theorem unmoved_modEntry (s : State) (i : ApIndex) (f : ApEntry → ApEntry) (h : ∀ entry, (f entry).bindings = entry.bindings) :
    Unmoved s (s.modEntry i f) := by
  refine ⟨rfl, rfl, rfl, fun _ _ => rfl, fun j => ?_⟩
  rw [State.entry_modEntry]
  split
  · next same => subst same; exact h _
  · rfl

/-- An update of none of the parts that the invariants are about. -/
theorem unmoved_of_parts {s t : State} (memory : t.memory = s.memory) (health : t.health = s.health)
    (pending : t.parityPending = s.parityPending) (ports : t.ports = s.ports) (apertures : t.apertures = s.apertures) :
    Unmoved s t :=
  ⟨memory, health, pending, fun p k => by unfold State.slot State.port; rw [ports],
    fun i => by unfold State.entry; rw [apertures]⟩

theorem unmoved_modBank (s : State) (b : BankId) (f : Bank → Bank) : Unmoved s (s.modBank b f) :=
  unmoved_of_parts rfl rfl rfl rfl rfl
theorem unmoved_mapBanks (s : State) (f : Bank → Bank) : Unmoved s (s.mapBanks f) := unmoved_of_parts rfl rfl rfl rfl rfl
theorem unmoved_setHold (s : State) (h : HoldId) (e : Option Hold) : Unmoved s (s.setHold h e) :=
  unmoved_of_parts rfl rfl rfl rfl rfl
theorem unmoved_modMgmt (s : State) (f : Mgmt → Mgmt) : Unmoved s (s.modMgmt f) := unmoved_of_parts rfl rfl rfl rfl rfl
theorem unmoved_modFaults (s : State) (f : FaultUnit → FaultUnit) : Unmoved s (s.modFaults f) := (reports_modFaults s f).unmoved
theorem unmoved_setDevice (s : State) (d : DevState) : Unmoved s (s.setDevice d) := unmoved_of_parts rfl rfl rfl rfl rfl
theorem unmoved_setDecisions (s : State) (due : Bool) : Unmoved s (s.setDecisions due) := unmoved_of_parts rfl rfl rfl rfl rfl
theorem unmoved_nextPlace (s : State) : Unmoved s s.nextPlace := (reports_nextPlace s).unmoved
theorem unmoved_offer (s : State) (fault : Offer) : Unmoved s (s.offer fault) := (reports_offer s fault).unmoved
theorem unmoved_raise (s : State) (p : PortId) (e : Event) : Unmoved s (s.raise p e) := (reports_raise s p e).unmoved
theorem unmoved_attentionTest (s : State) : Unmoved s s.attentionTest := (reports_attentionTest s).unmoved

theorem unmoved_setTag (s : State) (p : PortId) (t : Tag) (h : Option Holder) : Unmoved s (s.setTag p t h) :=
  unmoved_modPort s p _ (by intro; rfl)

theorem unmoved_popHead (s : State) (p : PortId) : Unmoved s (s.popHead p) := unmoved_modPort s p _ (by intro; rfl)

theorem unmoved_promptAttempts (s : State) : Unmoved s s.promptAttempts :=
  unmoved_of_slots (calm_promptAttempts s) ⟨rfl, rfl, rfl⟩ (steady_promptAttempts s).slot

/-! ### Responses and admission -/

theorem unmoved_respond (s : State) (p : PortId) (r : Response) : Unmoved s (s.respond p r) :=
  unmoved_ite (((unmoved_setTag ..).trans (unmoved_modPort _ _ _ (by intro; rfl))).trans (unmoved_nextPlace _))
    (((unmoved_setTag ..).trans (unmoved_offer ..)).trans (unmoved_raise ..))

theorem unmoved_answer (s : State) (p : PortId) (r : Response) : Unmoved s (s.answer p r) :=
  (unmoved_popHead s p).trans (unmoved_respond ..)

theorem unmoved_answerOffer (s : State) (p : PortId) (r : Response) (fault : Offer) : Unmoved s ((s.answer p r).offer fault) :=
  (unmoved_answer ..).trans (unmoved_offer ..)

theorem unmoved_fenceTest (s : State) (p : PortId) : Unmoved s (s.fenceTest p) := unmoved_ite (unmoved_answer ..) (.refl _)

theorem unmoved_admission (s : State) (p : PortId) (header : Header) (body : List Byte) (transfer : Transfer)
    (parking : Option HoldId) : Unmoved s (s.admission p header body transfer parking) :=
  ((((unmoved_modBank ..).trans (unmoved_modEntry _ _ _ (by intro; rfl))).trans (unmoved_setTag ..)).trans
    (unmoved_popHead ..)).trans (unmoved_nextPlace _)

theorem unmoved_waitSpace (s : State) (p : PortId) (tag : Tag) : Unmoved s (s.waitSpace p tag) :=
  unmoved_ite (.refl _) (((unmoved_modPort _ _ _ (by intro; rfl)).trans (unmoved_setTag ..)).trans (unmoved_nextPlace _))

theorem unmoved_attempt (s : State) (p : PortId) (body : List Byte) : Unmoved s (s.attempt p body) := by
  unfold State.attempt
  dsimp only
  split
  · exact unmoved_answerOffer ..
  · exact unmoved_ite (unmoved_answerOffer ..) (unmoved_ite (unmoved_admission ..) (unmoved_waitSpace ..))

theorem unmoved_reattempt (s : State) (p : PortId) : Unmoved s (s.reattempt p) :=
  (unmoved_modPort _ _ _ (by intro; rfl)).trans (unmoved_attempt ..)

/-! ### Holds -/

theorem unmoved_endHold (s : State) (h : HoldId) (cause : HoldEnd) : Unmoved s (s.endHold h cause) :=
  unmoved_of_slots (calm_endHold ..) (tables_endHold ..) (steady_endHold ..).slot

theorem unmoved_endHolds (s : State) (cause : HoldEnd) (which : Hold → Bool) : Unmoved s (s.endHolds cause which) :=
  unmoved_of_slots (calm_endHolds ..) (tables_endHolds ..) (steady_endHolds ..).slot

theorem unmoved_judgeHold (s : State) (p : PortId) (header : Header) (copy : SlotCopy) :
    Unmoved s (s.judgeHold p header copy) := by
  have refused : ∀ status code unit, Unmoved s (s.refuseHold p header copy status code unit) :=
    fun _ _ _ => unmoved_answerOffer ..
  unfold State.judgeHold
  dsimp only
  refine unmoved_ite (refused ..) (unmoved_ite (refused ..) (unmoved_ite (refused ..) (unmoved_ite (refused ..)
    (unmoved_ite (refused ..) ?_))))
  split
  · exact (unmoved_setHold ..).trans (unmoved_answer ..)
  · exact refused ..

theorem unmoved_takeHoldOpen (s : State) (p : PortId) (header : Header) : Unmoved s (s.takeHoldOpen p header) := by
  unfold State.takeHoldOpen
  split
  · exact unmoved_answerOffer ..
  · exact unmoved_ite (unmoved_answerOffer ..) (unmoved_judgeHold ..)

theorem unmoved_takeHoldRelease (s : State) (p : PortId) (header : Header) : Unmoved s (s.takeHoldRelease p header) :=
  unmoved_ite ((unmoved_endHold ..).trans (unmoved_answer ..)) (unmoved_answerOffer ..)

/-! ### FENCE and MGMT -/

theorem unmoved_takeFence (s : State) (p : PortId) (header : Header) : Unmoved s (s.takeFence p header) :=
  unmoved_ite (unmoved_answer ..) ((unmoved_modPort _ _ _ (by intro; rfl)).trans (unmoved_setTag ..))

theorem unmoved_takeMgmt (s : State) (p : PortId) (header : Header) (body : List Byte) :
    Unmoved s (s.takeMgmt p header body) :=
  unmoved_ite (unmoved_answerOffer ..) (unmoved_ite (unmoved_answerOffer ..) (unmoved_ite (unmoved_answer ..)
    ((((unmoved_modMgmt ..).trans (unmoved_setTag ..)).trans (unmoved_popHead ..)).trans (unmoved_nextPlace _))))

/-! ### Links -/

theorem unmoved_enterRetrain (s : State) (p : PortId) (cause : FaultCode) : Unmoved s (s.enterRetrain p cause) :=
  (unmoved_modLink ..).trans (unmoved_offer ..)

theorem unmoved_trainEnabled (s : State) : Unmoved s s.trainEnabled :=
  unmoved_foldl (fun _ _ => unmoved_ite (unmoved_modLink ..) (.refl _)) _ _

theorem unmoved_processAck (s : State) (p : PortId) (ack : Seq) : Unmoved s (s.processAck p ack) :=
  unmoved_ite (unmoved_modLink ..) (unmoved_offer ..)

theorem unmoved_replayDue (s : State) (p : PortId) : Unmoved s (s.replayDue p) :=
  unmoved_ite (unmoved_modLink ..) (unmoved_enterRetrain ..)

theorem unmoved_trainingTest (s : State) (p : PortId) : Unmoved s (s.trainingTest p) := by
  unfold State.trainingTest
  dsimp only
  refine unmoved_ite ?_ (.refl _)
  split
  · exact unmoved_modLink ..
  · split
    · exact unmoved_ite (unmoved_modLink ..) ((unmoved_modLink ..).trans (unmoved_offer ..))
    · exact unmoved_modLink ..
  · exact .refl _

theorem unmoved_acceptFreshRequest (s : State) (p : PortId) : Unmoved s (s.acceptFreshRequest p) :=
  (unmoved_modLink ..).trans (unmoved_trainingTest ..)

theorem unmoved_acceptRetrainRequest (s : State) (p : PortId) (ack : Seq) : Unmoved s (s.acceptRetrainRequest p ack) :=
  (unmoved_modLink ..).trans (unmoved_trainingTest ..)

theorem unmoved_retrainRequest (s : State) (p : PortId) (ack : Seq) : Unmoved s (s.retrainRequest p ack) := by
  unfold State.retrainRequest
  split
  · exact (unmoved_enterRetrain ..).trans (unmoved_acceptRetrainRequest ..)
  · exact unmoved_acceptRetrainRequest ..
  all_goals exact .refl _

theorem unmoved_trainAnswer (s : State) (p : PortId) (fresh : Bool) (ack : Seq) : Unmoved s (s.trainAnswer p fresh ack) := by
  unfold State.trainAnswer
  split
  · exact (unmoved_modLink ..).trans (unmoved_trainingTest ..)
  · exact (unmoved_modLink ..).trans (unmoved_trainingTest ..)
  · exact .refl _

theorem unmoved_sendOf (s : State) (p : PortId) (kind : SendKind) : Unmoved s (s.sendOf p kind) := by
  have taken : ∀ port, (takeBody port).slots = port.slots := by intro port; unfold takeBody; split <;> rfl
  refine unmoved_ite ?_ (.refl _)
  cases kind
  case newData => exact (unmoved_modPort _ _ _ taken).trans (unmoved_modLink ..)
  all_goals exact unmoved_modLink ..

theorem unmoved_replayFrom (s : State) (p : PortId) (ack : Seq) : Unmoved s (s.replayFrom p ack) :=
  unmoved_ite (unmoved_modLink ..) ((unmoved_modLink ..).trans (unmoved_replayDue ..))

theorem unmoved_acceptExpected (s : State) (p : PortId) (body : List Byte) : Unmoved s (s.acceptExpected p body) :=
  unmoved_ite ((unmoved_modPort _ _ _ (by intro; rfl)).trans (unmoved_modLink ..)) (unmoved_offer ..)

theorem unmoved_classify (s : State) (p : PortId) (seq : Seq) (body : List Byte) : Unmoved s (s.classify p seq body) :=
  unmoved_ite (unmoved_acceptExpected ..) (unmoved_ite (unmoved_modLink ..) (unmoved_modLink ..))

/-! ### Device states and the aperture table -/

theorem unmoved_enterReady (s : State) : Unmoved s s.enterReady :=
  ((unmoved_setDevice ..).trans (unmoved_trainEnabled _)).trans (reports_raiseDeviceState ..).unmoved

theorem unmoved_enterHalted (s : State) (cause : Offer) : Unmoved s (s.enterHalted cause) :=
  (((unmoved_setDevice ..).trans (unmoved_offer ..)).trans (unmoved_trainEnabled _)).trans (reports_raiseDeviceState ..).unmoved

theorem unmoved_parityFail (s : State) (i : ApIndex) : Unmoved s (s.parityFail i) :=
  unmoved_ite (unmoved_offer ..) (unmoved_enterHalted ..)

theorem unmoved_freeEntry (s : State) (i : ApIndex) : Unmoved s (s.freeEntry i) :=
  (unmoved_modEntry _ _ _ (by intro; rfl)).trans (reports_raiseFreed ..).unmoved

theorem unmoved_dropInFlight (s : State) (i : ApIndex) : Unmoved s (s.dropInFlight i) := unmoved_modEntry _ _ _ (by intro; rfl)

theorem unmoved_settleInFlight (s : State) (i : ApIndex) : Unmoved s (s.settleInFlight i) := by
  have dropped := unmoved_dropInFlight s i
  exact unmoved_ite (dropped.trans (unmoved_ite (unmoved_parityFail ..) (unmoved_ite (unmoved_freeEntry ..) (.refl _)))) dropped

theorem unmoved_dropEntries : ∀ (list : List Entry) (s : State), Unmoved s (s.dropEntries list).1
  | [], s => .refl s
  | entry :: rest, s => (unmoved_dropInFlight s entry.aperture).trans (unmoved_dropEntries rest _)

/-- Steps 1 to 5 of a teardown (R20). -/
theorem unmoved_teardownQueues (s : State) (p : PortId) (cause : Teardown) : Unmoved s (s.teardownQueues p cause).1 := by
  have emptied : Unmoved s (s.emptied p cause) :=
    ((((unmoved_modLink ..).trans (unmoved_mapBanks ..)).trans (unmoved_dropEntries ..)).trans
      (unmoved_modPort _ p emptyPort (by intro; rfl))).trans (unmoved_modLink ..)
  exact unmoved_ite emptied (emptied.trans (unmoved_promptAttempts _))

/-! ### Slots whose cached index stays -/

theorem slotIndex_staled (slot : Slot) : slotIndex (staled slot) = slotIndex slot := by cases slot <;> rfl

theorem slotIndex_modifiedSlot (i : ApIndex) (generation : Generation) (descriptor : Descriptor) (p : PortId) (slot : Slot) :
    slotIndex (modifiedSlot i generation descriptor p slot) = slotIndex slot := by
  cases slot with
  | bound copy =>
    rw [modifiedSlot]
    split
    · split <;> rfl
    · rfl
  | _ => rfl

/-- A change of the slots of a port that leaves the index that each of them caches. -/
theorem unmoved_slots (s : State) (p : PortId) (f : Port → Vector Slot 8)
    (h : ∀ port (k : SlotId), slotIndex (f port)[k] = slotIndex port.slots[k]) :
    Unmoved s (s.modPort p fun port => { port with slots := f port }) := by
  refine ⟨rfl, rfl, rfl, fun q k => ?_, fun _ => rfl⟩
  by_cases same : p = q
  · subst same
    simp only [State.slot, State.port_modPort_same]
    exact h _ k
  · simp only [State.slot, State.port_modPort_other _ _ same]

theorem unmoved_mapSlots (s : State) (p : PortId) (change : Slot → Slot) (h : ∀ slot, slotIndex (change slot) = slotIndex slot) :
    Unmoved s (s.modPort p fun port => { port with slots := port.slots.map change }) :=
  unmoved_slots s p _ fun port k => by simp [h]

theorem unmoved_raiseStale (s : State) (p : PortId) (slots : BitVec 8) : Unmoved s (s.raiseStale p slots) :=
  unmoved_ite (.refl _) (unmoved_raise ..)

theorem unmoved_stalePortSlots (s : State) (p : PortId) (which : SlotCopy → Bool) : Unmoved s (s.stalePortSlots p which) :=
  (unmoved_mapSlots s p _ fun slot => by split <;> [exact slotIndex_staled slot; rfl]).trans (unmoved_raiseStale ..)

theorem unmoved_modifyEntry (s : State) (i : ApIndex) (descriptor : Descriptor) : Unmoved s (s.modifyEntry i descriptor) :=
  ((unmoved_modEntry _ _ _ (by intro; rfl)).trans (unmoved_foldl (fun t p =>
    unmoved_mapSlots t p _ fun _ => slotIndex_modifiedSlot ..) _ _)).trans (reports_raiseStaled ..).unmoved

theorem unmoved_retireWalk (i : ApIndex) : ∀ (list : List (PortId × SlotId)) (s : State), Unmoved s (s.retireWalk i list).1
  | [], s => .refl s
  | (p, k) :: rest, s => by
    have staled : Unmoved s (s.modPort p fun port => { port with slots := port.slots.set k (staled port.slots[k]) }) :=
      unmoved_slots s p _ fun port j => by
        by_cases same : k = j
        · subst same; simp [slotIndex_staled]
        · simp [Fin.val_ne_of_ne same]
    unfold State.retireWalk
    split
    · split
      · exact .refl _
      · exact staled.trans (unmoved_retireWalk i rest _)
    · exact unmoved_retireWalk i rest s

theorem unmoved_finishRetire (s before : State) (i : ApIndex) : Unmoved s (s.finishRetire before i) := by
  have broken := (reports_raiseStaled s before fun _ copy => decide (handleIndex copy.handle = i)).unmoved.trans
    (unmoved_endHolds _ (.broken .retire) fun hold => decide (hold.aperture = i ∧ hold.generation = (before.entry i).generation))
  unfold State.finishRetire
  dsimp only
  split
  · exact broken.trans (unmoved_freeEntry ..)
  · exact broken

theorem unmoved_forceFree (s : State) (i : ApIndex) : Unmoved s (s.forceFree i) :=
  ((unmoved_modEntry _ _ _ (by intro; rfl)).trans (unmoved_mapBanks ..)).trans (reports_raiseFreed ..).unmoved

end Sys2Proof.Machine
end

section
/-! The canonical form of memory, the binding counts and the failed lookups that wait: each event of the slots, the banks and the
links keeps them (R81, R85). -/

namespace Sys2Proof.Machine

/-- A part of an event keeps the canonical form of memory and the binding counts. -/
structure PartKeeps (s t : State) : Prop where
  memory : s.MemoryWf → t.MemoryWf
  bindings : s.BindingsCounted → t.BindingsCounted

/-- An event keeps these, and no failed lookup waits after it where none did before. -/
structure EventKeeps (s t : State) : Prop extends PartKeeps s t where
  parity : s.ParitySettled → t.ParitySettled

theorem PartKeeps.refl (s : State) : PartKeeps s s := ⟨id, id⟩

theorem PartKeeps.trans {a b c : State} (h : PartKeeps a b) (k : PartKeeps b c) : PartKeeps a c :=
  ⟨k.memory ∘ h.memory, k.bindings ∘ h.bindings⟩

theorem EventKeeps.refl (s : State) : EventKeeps s s := ⟨.refl s, id⟩

theorem EventKeeps.trans {a b c : State} (h : EventKeeps a b) (k : EventKeeps b c) : EventKeeps a c :=
  ⟨h.toPartKeeps.trans k.toPartKeeps, k.parity ∘ h.parity⟩

theorem partKeeps_ite {c : Prop} [Decidable c] {s a b : State} (h : PartKeeps s a) (k : PartKeeps s b) :
    PartKeeps s (if c then a else b) := by
  split
  · exact h
  · exact k

theorem eventKeeps_ite {c : Prop} [Decidable c] {s a b : State} (h : EventKeeps s a) (k : EventKeeps s b) :
    EventKeeps s (if c then a else b) := by
  split
  · exact h
  · exact k

theorem partKeeps_foldl {α : Type} {f : State → α → State} (h : ∀ s a, PartKeeps s (f s a)) (list : List α) (s : State) :
    PartKeeps s (list.foldl f s) :=
  List.foldlRecOn (motive := PartKeeps s) _ _ (.refl s) fun _ k _ _ => k.trans (h _ _)

/-- What leaves the parts that the invariants are about keeps the invariants. -/
theorem Unmoved.event {s t : State} (h : Unmoved s t) : EventKeeps s t where
  memory wf := State.memoryWf_congr wf h.memory h.health
  bindings counted i := by
    have places : t.slotsNaming i = s.slotsNaming i := by simp only [State.slotsNaming, h.cached]
    rw [h.bindings, places, counted]
  parity settled := h.parityPending.trans settled

theorem Unmoved.part {s t : State} (h : Unmoved s t) : PartKeeps s t := h.event.toPartKeeps

/-! ### What moves the binding counts -/

theorem eventKeeps_setSlot (s : State) (p : PortId) (k : SlotId) (new : Slot) : EventKeeps s (s.setSlot p k new) := by
  have calm := calm_setSlot s p k new
  refine ⟨⟨fun wf => State.memoryWf_congr wf calm.memory calm.health, bindingsCounted_of_slotChanged (slotChanged_setSlot ..)⟩,
    fun settled => ?_⟩
  obtain ⟨table, e⟩ := setSlot_eq s p k new
  rw [e]
  exact settled

/-! ### What makes a failed lookup wait, and the end of the event -/

/-- Lookups that wait are none of what the other two invariants are about. -/
theorem partKeeps_parityPending (s : State) (list : List ApIndex) : PartKeeps s { s with parityPending := list } :=
  ⟨fun wf => State.memoryWf_congr wf rfl rfl, id⟩

theorem partKeeps_parityDefer (s : State) (i : ApIndex) : PartKeeps s (s.parityDefer i) :=
  partKeeps_ite (unmoved_offer ..).part (partKeeps_parityPending ..)

theorem partKeeps_lookupDrained (s : State) (i : ApIndex) : PartKeeps s (s.lookupDrained State.parityDefer i) :=
  partKeeps_ite (partKeeps_parityDefer ..) (partKeeps_ite (unmoved_freeEntry ..).part (.refl _))

theorem unmoved_parityFails (s : State) : Unmoved { s with parityPending := [] } s.finishParity :=
  unmoved_foldl unmoved_parityFail _ _

/-- At the end of an event no failed lookup waits (R85). -/
theorem paritySettled_finishParity (s : State) : s.finishParity.ParitySettled := (unmoved_parityFails s).parityPending

/-- An event that ends with the failed lookups of its parts (R85). -/
theorem PartKeeps.finish {s t : State} (h : PartKeeps s t) : EventKeeps s t.finishParity :=
  ⟨(h.trans (partKeeps_parityPending t [])).trans (unmoved_parityFails t).part, fun _ => paritySettled_finishParity t⟩

/-! ### Teardown and draining -/

theorem partKeeps_teardownCore (s : State) (p : PortId) (cause : Teardown) : PartKeeps s (s.teardownCore p cause) :=
  (((((unmoved_teardownQueues s p cause).part.trans
    (partKeeps_foldl (fun t k => (eventKeeps_setSlot t p k .empty).toPartKeeps) allSlots _)).trans
    (unmoved_endHolds ..).part).trans (unmoved_modMgmt ..).part).trans (reports_teardownRecord ..).unmoved.part).trans
    (partKeeps_foldl partKeeps_lookupDrained _ _)

theorem unmoved_setActive (s : State) (profile : Profile) : Unmoved s { s with active := profile } :=
  unmoved_of_parts rfl rfl rfl rfl rfl

theorem partKeeps_completeDrain (s : State) : PartKeeps s s.completeDrain := by
  unfold State.completeDrain
  split
  · exact ((unmoved_setActive ..).trans (unmoved_enterReady _)).part
  · exact (unmoved_setDevice ..).part.trans (partKeeps_foldl (fun _ _ => partKeeps_teardownCore ..) _ _)
  · exact .refl _

theorem partKeeps_drainTest (s : State) : PartKeeps s s.drainTest := partKeeps_ite (partKeeps_completeDrain s) (.refl _)

theorem eventKeeps_drainEvent (s : State) : EventKeeps s s.drainEvent :=
  eventKeeps_ite (partKeeps_completeDrain s).finish (.refl _)

theorem partKeeps_teardown (s : State) (p : PortId) (cause : Teardown) : PartKeeps s (s.teardown p cause) :=
  (partKeeps_teardownCore ..).trans (partKeeps_drainTest _)

theorem partKeeps_enterDraining (s : State) (reason : Drain) : PartKeeps s (s.enterDraining reason) :=
  (((unmoved_setDevice ..).trans (unmoved_endHolds ..)).trans (reports_raiseDeviceState ..).unmoved).part.trans
    (partKeeps_drainTest _)

/-! ### Takings -/

theorem eventKeeps_takeBind (s : State) (p : PortId) (header : Header) : EventKeeps s (s.takeBind p header) := by
  have refused : ∀ status code, EventKeeps s (s.refuseBind p header status code) := fun _ _ => (unmoved_answerOffer ..).event
  have filled : ∀ new, EventKeeps s ((s.setSlot p header.slot new).answer p { tag := header.tag, status := .ok }) :=
    fun _ => (eventKeeps_setSlot ..).trans (unmoved_answer ..).event
  exact eventKeeps_ite (filled _) (eventKeeps_ite ((unmoved_parityFail ..).trans (unmoved_answer ..)).event
    (eventKeeps_ite (refused ..) (eventKeeps_ite (refused ..) (eventKeeps_ite (refused ..) (filled _)))))

theorem eventKeeps_takeKind (s : State) (p : PortId) (header : Header) (body : List Byte) :
    EventKeeps s (s.takeKind p header body) := by
  unfold State.takeKind
  split
  case h_5 => exact eventKeeps_takeBind ..
  case h_6 => exact (eventKeeps_setSlot ..).trans (unmoved_answer ..).event
  case h_7 => exact (unmoved_answer ..).event
  case h_8 => exact (unmoved_takeHoldOpen ..).event
  case h_9 => exact (unmoved_takeHoldRelease ..).event
  case h_10 => exact (unmoved_takeFence ..).event
  case h_11 => exact (unmoved_takeMgmt ..).event
  case h_12 => exact .refl _
  all_goals exact (unmoved_attempt ..).event

theorem eventKeeps_takeRequest (s : State) (p : PortId) (body : List Byte) : EventKeeps s (s.takeRequest p body) := by
  unfold State.takeRequest
  dsimp only
  refine eventKeeps_ite (((unmoved_popHead ..).trans (unmoved_offer ..)).trans (unmoved_raise ..)).event ?_
  split
  · exact (unmoved_answer ..).event
  · exact eventKeeps_ite (eventKeeps_takeKind ..) (unmoved_answerOffer ..).event

theorem eventKeeps_takeHead (s : State) (p : PortId) : EventKeeps s (s.takeHead p) := by
  unfold State.takeHead
  split
  · exact .refl _
  · exact eventKeeps_ite ((unmoved_popHead ..).trans (unmoved_offer ..)).event (eventKeeps_takeRequest ..)

/-! ### The tick -/

theorem partKeeps_tickLink (s : State) (p : PortId) : PartKeeps s (s.tickLink p) := by
  unfold State.tickLink
  dsimp only
  split
  · exact (unmoved_ite (.refl _) (unmoved_ite ((unmoved_modLink ..).trans (unmoved_replayDue ..)) (unmoved_modLink ..))).part
  · exact (unmoved_ite (unmoved_modLink ..) (unmoved_modLink ..)).part
  · exact partKeeps_ite (partKeeps_ite (unmoved_modLink ..).part ((unmoved_modLink ..).part.trans (partKeeps_teardown ..)))
      (unmoved_modLink ..).part
  all_goals exact .refl _

theorem unmoved_tickCalibration (s : State) : Unmoved s s.tickCalibration := unmoved_ite (unmoved_setDevice ..) (.refl _)

theorem unmoved_timed (s : State) : Unmoved s s.timed := by
  have counted : Unmoved s s.counted := unmoved_of_parts rfl rfl rfl rfl rfl
  exact (counted.trans (unmoved_endHolds ..)).trans (unmoved_mapBanks ..)

theorem eventKeeps_takeTick (s : State) : EventKeeps s s.takeTick := by
  have ticked : EventKeeps s s.ticked := (((unmoved_timed s).part.trans (partKeeps_foldl partKeeps_tickLink allPorts _)).trans
    (unmoved_tickCalibration _).part).finish
  exact ticked.trans (unmoved_setDecisions ..).event

/-! ### Due events and settling -/

theorem unmoved_decideBank (s : State) (b : BankId) : Unmoved s (s.decideBank b) :=
  Unmoved.trans (unmoved_modBank ..) (unmoved_setDecisions ..)

theorem eventKeeps_runDue (s : State) (due : Due) : EventKeeps s (s.runDue due) := by
  cases due
  case attempt p => exact (unmoved_reattempt ..).event.trans (eventKeeps_drainEvent _)
  case take p => exact (eventKeeps_takeHead ..).trans (eventKeeps_drainEvent _)
  case drain => exact eventKeeps_drainEvent s
  case tick => exact eventKeeps_takeTick s
  case decide b => exact (unmoved_decideBank ..).event

theorem eventKeeps_settleWhile (go : State → Due → Bool) (fuel : Nat) (s : State) : EventKeeps s (settleWhile go fuel s) :=
  settleWhile_induction (P := EventKeeps s) (fun _ _ _ k => k.trans (eventKeeps_runDue ..)) go fuel s (.refl s)

theorem eventKeeps_settle (s : State) : EventKeeps s s.settle := eventKeeps_settleWhile ..

theorem eventKeeps_prompted (s : State) (which : State → Due → Bool) : EventKeeps s (s.prompted which) :=
  prompted_induction (P := EventKeeps s) (fun _ _ _ k => k.trans (eventKeeps_runDue ..)) which s (.refl s)

theorem unmoved_fallDue (s : State) : Unmoved s s.fallDue := unmoved_ite (.refl _) (unmoved_of_parts rfl rfl rfl rfl rfl)

theorem eventKeeps_tickEvent (s : State) : EventKeeps s s.tickEvent := by
  have due : EventKeeps s s.settleTick.fallDue := (eventKeeps_settleWhile ..).trans (unmoved_fallDue _).event
  exact eventKeeps_ite (due.trans (eventKeeps_takeTick _)) due

theorem eventKeeps_tickWhen (s : State) (condition : State → Bool) : EventKeeps s (s.tickWhen condition) := by
  have before : EventKeeps s s.settleTick := eventKeeps_settleWhile ..
  exact eventKeeps_ite (before.trans ((unmoved_fallDue _).event.trans (eventKeeps_takeTick _))) before

/-! ### Services -/

theorem eventKeeps_setHealth (s : State) (unit : UnitAddr) (health : Health) : EventKeeps s (s.setHealth unit health) :=
  ⟨⟨fun wf => State.memoryWf_setHealth wf unit health, id⟩, id⟩

theorem eventKeeps_setData (s : State) (unit : UnitAddr) (data : List Byte) : EventKeeps s (s.setData unit data) :=
  ⟨⟨fun wf => State.memoryWf_setData wf unit data, id⟩, id⟩

theorem eventKeeps_clearUnits (s : State) (b : BankId) (position : Nat) : EventKeeps s (s.clearUnits b position) :=
  ⟨⟨fun wf => State.memoryWf_clearUnits wf b position, id⟩, id⟩

theorem eventKeeps_writeUnit (s : State) (unit : UnitAddr) (data : List Byte) : EventKeeps s (s.writeUnit unit data) := by
  have clean := (eventKeeps_setData s unit data).trans (eventKeeps_setHealth _ unit .clean)
  unfold State.writeUnit
  dsimp only
  split
  · exact eventKeeps_ite (((eventKeeps_setData ..).trans (eventKeeps_setHealth ..)).trans (unmoved_modMgmt ..).event) clean
  · exact clean

theorem eventKeeps_writeUnits : ∀ (units : List UnitAddr) (s : State) (data : List Byte), EventKeeps s (s.writeUnits units data)
  | [], s, _ => .refl s
  | unit :: rest, s, _ => (eventKeeps_writeUnit s unit _).trans (eventKeeps_writeUnits rest _ _)

theorem eventKeeps_readUnits (b : BankId) (entry : Entry) (scrub log : Bool) : ∀ (units : List UnitAddr) (s : State),
    EventKeeps s (s.readUnits b entry scrub log units).1
  | [], s => .refl s
  | unit :: rest, s => by
    unfold State.readUnits
    split
    · exact eventKeeps_readUnits b entry scrub log rest s
    · have counted : EventKeeps s (s.countCorrected b) := (unmoved_modBank ..).event
      exact (eventKeeps_ite (counted.trans (eventKeeps_setHealth ..)) counted).trans
        (eventKeeps_readUnits b entry scrub log rest _)
    · exact eventKeeps_readUnits b entry scrub log rest s

theorem eventKeeps_serveModify (s : State) (b : BankId) (entry : Entry) (log : Bool)
    (change : List Byte → List Byte × Bool × List Byte) : EventKeeps s (s.serveModify b entry log change).state := by
  unfold State.serveModify
  dsimp only
  split
  · exact eventKeeps_writeUnit ..
  · exact EventKeeps.trans (b := s.countCorrected b) (unmoved_modBank ..).event (eventKeeps_writeUnit ..)
  · exact .refl _

theorem eventKeeps_serve (s : State) (b : BankId) (entry : Entry) (scrub log : Bool) :
    EventKeeps s (s.serve b entry scrub log).state := by
  unfold State.serve
  split
  · have read := eventKeeps_readUnits b entry scrub log (unitsFrom entry.unit entry.length) s
    unfold State.serveRead
    dsimp only
    split
    · exact read
    · exact read
  · exact eventKeeps_writeUnits ..
  · exact eventKeeps_serveModify ..
  · exact eventKeeps_serveModify ..

theorem unmoved_respondServed (s : State) (entry : Entry) (served : Served) : Unmoved s (s.respondServed entry served) :=
  unmoved_ite (.refl _) (unmoved_respond ..)

theorem eventKeeps_completeEntry (s : State) (b : BankId) (entry : Entry) (scrub log : Bool) :
    EventKeeps s (s.completeEntry b entry scrub log) := by
  have told := (eventKeeps_serve s b entry scrub log).trans (reports_offerAll _ (s.serve b entry scrub log).offers).unmoved.event
  have left := (told.trans (unmoved_respondServed _ entry (s.serve b entry scrub log)).event).trans
    ((unmoved_modBank _ b (leaveQueue entry.position)).trans (unmoved_fenceTest _ entry.port)).event
  exact (eventKeeps_ite left (left.trans (unmoved_settleInFlight ..).event)).trans (unmoved_promptAttempts _).event

theorem eventKeeps_complete (s : State) (b : BankId) (kind : ServiceKind) : EventKeeps s (s.complete b kind) := by
  unfold State.complete
  split
  · exact eventKeeps_ite (eventKeeps_completeEntry ..) (.refl _)
  · exact .refl _

theorem eventKeeps_completeClearing (s : State) (b : BankId) : EventKeeps s (s.completeClearing b) := by
  have idle : EventKeeps s ((s.clearUnits b (s.bank b).clearPosition).modBank b fun bank =>
      { bank with state := .idle, decisionDue := true }) := (eventKeeps_clearUnits ..).trans (unmoved_modBank ..).event
  have counted := idle.trans (unmoved_modBank _ b fun bank => { bank with clearPosition := bank.clearPosition + 1 }).event
  exact eventKeeps_ite (eventKeeps_ite (counted.trans (unmoved_enterReady _).event) counted) idle

theorem partKeeps_completeRefresh (s : State) (b : BankId) : PartKeeps s (s.completeRefresh b) :=
  (unmoved_modBank ..).part.trans (partKeeps_drainTest _)

/-! ### Arrivals -/

theorem eventKeeps_hostResetPort (s : State) (p : PortId) : EventKeeps s (s.hostResetPort p) :=
  ((partKeeps_teardown s p .hostReset).trans (unmoved_ite (unmoved_acceptFreshRequest ..) (.refl _)).part).finish

theorem eventKeeps_freshRequest (s : State) (p : PortId) : EventKeeps s (s.freshRequest p) := by
  unfold State.freshRequest
  split
  · exact (unmoved_acceptFreshRequest ..).event
  · exact eventKeeps_hostResetPort ..
  · exact eventKeeps_hostResetPort ..
  all_goals exact .refl _

end Sys2Proof.Machine
end

section
/-! The management commands and every other command keep the canonical form of memory and the binding counts and leave no failed
lookup waiting; the tier 3 statements (R81, R85). -/

namespace Sys2Proof.Machine

/-! ### Management commands -/

theorem unmoved_doRegRead (s : State) (block : List Byte) : Unmoved s (s.doRegRead block).1 := by
  unfold State.doRegRead; split <;> exact .refl _

theorem unmoved_writeRegister {s after : State} {value : Nat} {register : Register}
    (h : s.writeRegister value register = some after) : Unmoved s after := by
  cases register <;> simp only [State.writeRegister, reduceCtorEq, Option.some.injEq] at h
  case portStat0 | portStat1 => subst h; exact unmoved_modLink ..
  case bankStat => subst h; exact unmoved_modBank ..
  case logStat0 | logStat1 | logClass => subst h; exact unmoved_modFaults ..
  case alertMask => subst h; exact (unmoved_modFaults ..).trans (unmoved_attentionTest _)

theorem unmoved_doRegWrite (s : State) (block : List Byte) : Unmoved s (s.doRegWrite block).1 := by
  unfold State.doRegWrite
  split
  · exact .refl _
  · split
    · next written => exact unmoved_writeRegister written
    · exact .refl _

theorem unmoved_doCreate (s : State) (block : List Byte) : Unmoved s (s.doCreate block).1 := by
  unfold State.doCreate
  split
  · exact .refl _
  · split
    · exact unmoved_parityFail ..
    · split
      · exact .refl _
      · split
        · exact .refl _
        · exact unmoved_modEntry _ _ _ (by intro; rfl)

theorem unmoved_doModify (s : State) (block : List Byte) : Unmoved s (s.doModify block).1 := by
  unfold State.doModify
  split
  · exact .refl _
  · split
    · exact unmoved_parityFail ..
    · split
      · exact .refl _
      · split
        · exact .refl _
        · exact unmoved_modifyEntry ..

theorem unmoved_doRetire (s : State) (block : List Byte) : Unmoved s (s.doRetire block).1 := by
  unfold State.doRetire
  split
  · exact .refl _
  · next i _ =>
    generalize walkOrder = order
    have walked := (unmoved_modEntry s i (fun entry => { entry with state := .retiring }) (by intro; rfl)).trans
      (unmoved_retireWalk i order _)
    split
    · exact unmoved_parityFail ..
    · split
      · exact .refl _
      · split
        · next stopped e => rw [e] at walked; exact walked.trans (unmoved_parityFail ..)
        · next final e => rw [e] at walked; dsimp only; exact walked.trans (unmoved_finishRetire ..)

theorem unmoved_doRead (s : State) (block : List Byte) : Unmoved s (s.doRead block).1 := by
  unfold State.doRead
  split
  · exact .refl _
  · exact unmoved_ite (unmoved_parityFail ..) (.refl _)

theorem unmoved_doLogPop (s : State) : Unmoved s s.doLogPop.1 := by
  unfold State.doLogPop
  split
  · exact .refl _
  · exact (unmoved_modFaults ..).trans (unmoved_attentionTest _)

theorem unmoved_doLogPeek (s : State) (block : List Byte) : Unmoved s (s.doLogPeek block).1 := by
  unfold State.doLogPeek; split <;> exact .refl _

theorem unmoved_doLogClear (s : State) : Unmoved s s.doLogClear.1 := by
  unfold State.doLogClear
  dsimp only
  exact (unmoved_modFaults ..).trans (unmoved_attentionTest _)

theorem partKeeps_withdraw (s : State) (p : PortId) (new : PortConfig) : PartKeeps s (s.withdraw p new) :=
  partKeeps_ite (partKeeps_teardown ..) (unmoved_ite (unmoved_stalePortSlots ..) (.refl _)).part

theorem partKeeps_doPortConfig (s : State) (source : Source) (block : List Byte) :
    PartKeeps s (s.doPortConfig source block).1 := by
  have replaced : ∀ p new, PartKeeps s ((s.withdraw p new).modPort p fun port => { port with config := new }) :=
    fun p new => (partKeeps_withdraw ..).trans (unmoved_modPort _ _ _ (by intro; rfl)).part
  unfold State.doPortConfig
  split
  · exact .refl _
  · split
    · exact .refl _
    · exact partKeeps_ite ((replaced ..).trans (unmoved_modLink ..).part) (replaced ..)

theorem partKeeps_doPortReset (s : State) (source : Source) (block : List Byte) :
    PartKeeps s (s.doPortReset source block).1 := by
  have cleared : ∀ p, PartKeeps s ((s.teardown p .portReset).modLink p clearCounters) :=
    fun p => (partKeeps_teardown ..).trans (unmoved_modLink ..).part
  unfold State.doPortReset
  split
  · exact .refl _
  · split
    · exact .refl _
    · exact partKeeps_ite ((cleared _).trans (unmoved_modLink ..).part) (cleared _)

theorem unmoved_doProfileStage (s : State) (block : List Byte) : Unmoved s (s.doProfileStage block).1 := by
  unfold State.doProfileStage
  split
  · exact unmoved_of_parts rfl rfl rfl rfl rfl
  · exact .refl _

theorem partKeeps_commit (s : State) : PartKeeps s s.commit := by
  have replaced := unmoved_setActive s s.staged
  unfold State.commit
  split
  · exact (replaced.trans ((unmoved_setDevice ..).trans (unmoved_mapBanks ..))).part
  · exact replaced.part
  · exact replaced.part
  · exact partKeeps_enterDraining ..
  all_goals exact .refl _

theorem partKeeps_doProfileCommit (s : State) : PartKeeps s s.doProfileCommit.1 := by
  unfold State.doProfileCommit
  split
  · exact .refl _
  · exact partKeeps_commit s

theorem partKeeps_doQuiesce (s : State) : PartKeeps s s.doQuiesce.1 := by
  unfold State.doQuiesce
  dsimp only
  exact partKeeps_enterDraining ..

theorem unmoved_doResume (s : State) : Unmoved s s.doResume.1 := unmoved_ite (.refl _) (unmoved_enterReady _)

theorem unmoved_settleDrain (s : State) : Unmoved s s.settleDrain := by
  rcases settleDrain_cases s with ends | ⟨stays, -⟩
  · rw [ends]
    exact (unmoved_setActive s (settledActive s)).trans (unmoved_enterReady _)
  · rw [stays]
    exact .refl s

theorem partKeeps_doDatapathReset (s : State) : PartKeeps s s.doDatapathReset.1 := by
  have torn : PartKeeps s s.resetTorn := partKeeps_foldl (fun _ _ => partKeeps_teardownCore ..) allPorts s
  have freed : Unmoved s.resetTorn s.resetFreed := by
    unfold State.resetFreed
    exact unmoved_foldl unmoved_forceFree s.resetTorn.retiringIndices s.resetTorn
  have armed : Unmoved s.resetTorn s.resetArmed := freed.trans (unmoved_modMgmt ..)
  rw [doDatapathReset_eq]
  exact torn.trans (armed.trans (unmoved_settleDrain _)).part

theorem unmoved_doHoldBreak (s : State) (block : List Byte) : Unmoved s (s.doHoldBreak block).1 := by
  unfold State.doHoldBreak
  split
  · exact unmoved_endHold ..
  · exact .refl _

theorem unmoved_doInjectEcc (s : State) (block : List Byte) : Unmoved s (s.doInjectEcc block).1 := by
  unfold State.doInjectEcc
  split
  · dsimp only
    exact unmoved_modMgmt ..
  · exact .refl _

theorem unmoved_doHalt (s : State) (source : Source) : Unmoved s (s.doHalt source).1 := by
  unfold State.doHalt
  dsimp only
  exact unmoved_enterHalted ..

/-- The effect of a permitted command (R170). -/
theorem partKeeps_commandEffect (s : State) (source : Source) (block : List Byte) (command : Command) :
    PartKeeps s (s.commandEffect source block command).1 := by
  unfold State.commandEffect
  cases command
  case regRead => exact (unmoved_doRegRead ..).part
  case regWrite => exact (unmoved_doRegWrite ..).part
  case apertureCreate => exact (unmoved_doCreate ..).part
  case apertureModify => exact (unmoved_doModify ..).part
  case apertureRetire => exact (unmoved_doRetire ..).part
  case apertureRead => exact (unmoved_doRead ..).part
  case portConfig => exact partKeeps_doPortConfig ..
  case portReset => exact partKeeps_doPortReset ..
  case logPop => exact (unmoved_doLogPop s).part
  case logPeek => exact (unmoved_doLogPeek ..).part
  case logClear => exact (unmoved_doLogClear s).part
  case profileStage => exact (unmoved_doProfileStage ..).part
  case profileCommit => exact partKeeps_doProfileCommit s
  case quiesce => exact partKeeps_doQuiesce s
  case resume => exact (unmoved_doResume s).part
  case datapathReset => exact partKeeps_doDatapathReset s
  case holdBreak => exact (unmoved_doHoldBreak ..).part
  case injectEcc => exact (unmoved_doInjectEcc ..).part
  case halt => exact (unmoved_doHalt ..).part

theorem partKeeps_runBlock (s : State) (source : Source) (block : List Byte) : PartKeeps s (s.runBlock source block).1 := by
  unfold State.runBlock
  split
  · exact .refl _
  · split
    · exact partKeeps_commandEffect ..
    · exact .refl _

theorem unmoved_recordOutcome (s : State) (source : Source) (block : List Byte) (outcome : Outcome) :
    Unmoved s (s.recordOutcome source block outcome) := by
  unfold State.recordOutcome
  split
  · exact unmoved_offer ..
  · exact .refl _

theorem unmoved_deliver (s : State) (source : Source) (block : List Byte) (outcome : Outcome) :
    Unmoved s (s.deliver source block outcome) := by
  cases source
  case spi => exact unmoved_modMgmt ..
  case port p tag => exact unmoved_ite ((unmoved_respond ..).trans (unmoved_fenceTest ..)) (.refl _)

/-- The end of an execution is the end of its event (R85, R170). -/
theorem PartKeeps.concluded {s t : State} (h : PartKeeps s t) (command : QueuedCommand) (outcome : Outcome) :
    EventKeeps s (t.concluded command outcome) :=
  h.finish.trans (((unmoved_recordOutcome ..).trans (unmoved_deliver ..)).trans (unmoved_promptAttempts _)).event

theorem eventKeeps_execute (s : State) (command : QueuedCommand) : EventKeeps s (s.execute command) :=
  ((unmoved_modMgmt s popCommand).part.trans (partKeeps_runBlock ..)).concluded ..

theorem eventKeeps_execution (s : State) (which : List Byte → Bool) : EventKeeps s (s.execution which) := by
  unfold State.execution
  dsimp only
  split
  · exact eventKeeps_ite ((eventKeeps_settle s).trans (eventKeeps_execute ..)) (eventKeeps_settle s)
  · exact eventKeeps_settle s

theorem eventKeeps_answerTag (s : State) (p : PortId) (tag : Tag) : EventKeeps s (s.answerTag p tag) := by
  unfold State.answerTag
  split
  · split
    · exact eventKeeps_completeEntry ..
    · exact .refl _
  · split
    · exact eventKeeps_ite (eventKeeps_execute ..) (.refl _)
    · exact .refl _

theorem eventKeeps_answerFence (s : State) (p : PortId) : EventKeeps s (s.answerFence p) := by
  refine eventKeeps_ite (unmoved_fenceTest ..).event ?_
  split
  · exact eventKeeps_answerTag ..
  · exact .refl _

/-! ### The SPI port -/

theorem unmoved_drive (s : State) (bytes : Option (List Byte)) : Unmoved s (s.drive bytes) := unmoved_modMgmt ..

theorem unmoved_submit (s : State) (block : List Byte) : Unmoved s (s.submit block) :=
  unmoved_ite (unmoved_modMgmt ..) (unmoved_ite ((unmoved_modMgmt ..).trans (unmoved_offer ..)) (unmoved_ite (unmoved_modMgmt ..)
    ((unmoved_modMgmt ..).trans (unmoved_nextPlace _))))

/-! ### Every command -/

/-- A disturbance of an entry strikes no binding count (R70, R84). -/
theorem bindings_disturbEntry (index : ApIndex) (bit : StoredBit) (entry : ApEntry) :
    (disturbEntry index bit entry).bindings = entry.bindings := by
  unfold disturbEntry
  split
  · rfl
  · cases bit <;> rfl

/-- RESET_N asserted empties every slot and keeps the memory (R4, R25). -/
theorem eventKeeps_assertReset (s : State) : EventKeeps s s.assertReset where
  memory wf := State.memoryWf_congr wf rfl rfl
  bindings _ i := by
    have empty : s.assertReset.slotsNaming i = 0 := by simp [State.slotsNaming, slotIndex]
    rw [entry_assertReset, empty]
    rfl
  parity _ := rfl

/-- Every command keeps the three invariants. -/
theorem exec_keeps (i : Instr) (s : State) : ∃ t, exec i s = .next t ∧ EventKeeps s t := by
  have settled := eventKeeps_settle s
  have link : ∀ p f, EventKeeps s (s.settle.modLink p f) := fun _ _ => settled.trans (unmoved_modLink ..).event
  have send : ∀ p kind, EventKeeps s (s.settle.sendOf p kind) := fun _ _ => settled.trans (unmoved_sendOf ..).event
  cases i
  case resetNAssert => exact ⟨_, rfl, eventKeeps_assertReset s⟩
  case resetNRelease => exact ⟨_, rfl, (unmoved_ite (unmoved_setDevice ..) (.refl _)).event⟩
  case tick => exact ⟨_, rfl, eventKeeps_tickEvent s⟩
  case calibrationEnd | refreshObligation | holdExpiry | ackTimeout | trainingTimeout => exact ⟨_, rfl, eventKeeps_tickWhen ..⟩
  case memoryDisturbance => exact ⟨_, rfl, settled.trans (eventKeeps_setHealth ..)⟩
  case tableDisturbance index bit =>
    exact ⟨_, rfl, eventKeeps_ite settled (settled.trans (unmoved_modEntry _ _ _ (bindings_disturbEntry index bit)).event)⟩
  case malformedParcel => exact ⟨_, rfl, eventKeeps_ite (link ..) settled⟩
  case receiveData =>
    exact ⟨_, rfl, eventKeeps_ite (link ..)
      (eventKeeps_ite (settled.trans ((unmoved_processAck ..).trans (unmoved_classify ..)).event) settled)⟩
  case receiveAck => exact ⟨_, rfl, eventKeeps_ite (settled.trans (unmoved_processAck ..).event) settled⟩
  case receiveNak =>
    exact ⟨_, rfl, eventKeeps_ite (eventKeeps_ite (settled.trans (unmoved_replayFrom ..).event)
      (settled.trans (unmoved_offer ..).event)) settled⟩
  case receiveTrainReq | hostReset => exact ⟨_, rfl, settled.trans (eventKeeps_freshRequest ..)⟩
  case receiveRetrainReq => exact ⟨_, rfl, settled.trans (unmoved_retrainRequest ..).event⟩
  case receiveTrainAck => exact ⟨_, rfl, settled.trans (unmoved_trainAnswer ..).event⟩
  case sendTrainAck | sendTrainReq | sendNak | sendRetransmit | sendNewData | sendAck => exact ⟨_, rfl, send ..⟩
  case shortRequest | read | write | writeMasked | atomic | bind | unbind | querySlot | holdOpen | holdRelease | fence |
      mgmt | invalidRequestKind | admissionReattempt | bankDecision | drainComplete => exact ⟨_, rfl, eventKeeps_prompted ..⟩
  case fenceAnswer => exact ⟨_, rfl, settled.trans (eventKeeps_answerFence ..)⟩
  case readService | writeService | writeMaskedService | atomicService => exact ⟨_, rfl, settled.trans (eventKeeps_complete ..)⟩
  case clearingService => exact ⟨_, rfl, eventKeeps_ite (settled.trans (eventKeeps_completeClearing ..)) settled⟩
  case refreshComplete =>
    exact ⟨_, rfl, eventKeeps_ite (settled.trans (partKeeps_completeRefresh ..).finish) settled⟩
  case spiStatus =>
    exact ⟨_, rfl, settled.trans (unmoved_ite (unmoved_drive ..) ((unmoved_drive ..).trans (unmoved_modMgmt ..))).event⟩
  case spiResult => exact ⟨_, rfl, settled.trans (unmoved_drive ..).event⟩
  case spiSubmit =>
    exact ⟨_, rfl, (eventKeeps_settleWhile ..).trans
      (unmoved_ite (unmoved_drive ..) ((unmoved_submit ..).trans (unmoved_drive ..))).event⟩
  case spiBadOpcode =>
    exact ⟨_, rfl, settled.trans (unmoved_ite (unmoved_drive ..) (unmoved_ite (.refl _)
      (((unmoved_modMgmt ..).trans (unmoved_offer ..)).trans (unmoved_drive ..)))).event⟩
  all_goals exact ⟨_, rfl, eventKeeps_execution ..⟩

/-- Every step keeps the three invariants: an idle step leaves the state, another runs a command. -/
theorem step_keeps {s t : State} (run : step s = .next t) : EventKeeps s t := by
  cases queue : s.pending with
  | nil =>
    rw [step_of_pending_nil queue] at run
    cases run
    exact .refl s
  | cons i rest =>
    rw [step_of_pending_cons queue] at run
    obtain ⟨after, e, kept⟩ := exec_keeps i { s with pending := rest }
    cases e.symm.trans run
    have taken : Unmoved s { s with pending := rest } := unmoved_of_parts rfl rfl rfl rfl rfl
    exact taken.event.trans kept

/-- Settles O54. -/
theorem stepKeepsMemoryAndParitySettled : Obligations.StepKeepsMemoryAndParitySettled :=
  ⟨fun _ _ wf run => (step_keeps run).memory wf, fun _ _ settled run => (step_keeps run).parity settled⟩

/-- Settles O55. -/
theorem stepKeepsBindingCounts : Obligations.StepKeepsBindingCounts := fun _ _ counted run => (step_keeps run).bindings counted

end Sys2Proof.Machine
end

section
/-! Aperture descriptors (R71, R172). -/

namespace Sys2Proof.Machine

/-- The granularity of a descriptor whose granularity byte is in range (R172). -/
def granularityField (block : List Byte) : Granularity := if (byteAt block 16).toNat = 0 then .unit else .page

theorem granularityOf_eq (block : List Byte) : granularityOf (byteAt block 16) =
    if (byteAt block 16).toNat ≤ 1 then some (granularityField block) else none := by
  unfold granularityOf granularityField
  rw [if_congr (toNat_eq_zero_iff _) rfl rfl, if_congr (toNat_eq_one_iff _) rfl rfl]
  split
  · next zero => simp [zero]
  · split
    · next one => simp [one]
    · rw [if_neg (by omega)]

/-- The five conditions of R71 on the argument bytes of a block. -/
abbrev DescriptorInRange (block : List Byte) : Prop :=
  (numberAt block 8 4 % 4 = 0 ∧ numberAt block 8 4 ≤ 0x3FFFFC) ∧ (byteAt block 16).toNat ≤ 1 ∧
    numberAt block 12 4 ≤ maxLimit (granularityField block) ∧
    numberAt block 8 4 + effectiveLimit (granularityField block) (numberAt block 12 4) ≤ 0x3FFFFF ∧ (byteAt block 18).toNat ≤ 3

/-- The fields of the descriptor that a block carries (R172). -/
def descriptorFields (block : List Byte) : Descriptor :=
  { base := BitVec.ofNat 22 (numberAt block 8 4), limit := BitVec.ofNat 22 (numberAt block 12 4),
    granularity := granularityField block, rights := rightsOf (byteAt block 17),
    accessTier := Fin.ofNat 4 (byteAt block 18).toNat, portMask := BitVec.ofNat 4 (byteAt block 19).toNat }

theorem descriptorOf_eq (block : List Byte) :
    descriptorOf block = if DescriptorInRange block then some (descriptorFields block) else none := by
  unfold descriptorOf DescriptorInRange
  dsimp only
  rw [granularityOf_eq]
  by_cases granularity : (byteAt block 16).toNat ≤ 1
  · simp only [granularity, if_true, true_and, and_assoc]
    rfl
  · simp [granularity]

/-- The largest limit in units, as the granularity byte has it. -/
theorem maxLimit_granularityField (block : List Byte) (limit : Nat) : limit ≤ maxLimit (granularityField block) ↔
    if (block.getD 16 0).toNat = 0 then limit ≤ 0x3FFFFF else limit ≤ 0x3FFF := by
  unfold granularityField byteAt
  split <;> exact Iff.rfl

theorem effectiveLimit_granularityField (block : List Byte) (limit : Nat) : effectiveLimit (granularityField block) limit =
    if (block.getD 16 0).toNat = 0 then limit else (limit + 1) * 256 - 1 := by
  unfold granularityField byteAt
  split <;> rfl

/-- The fields of a descriptor in range hold the numbers of the argument bytes whole. -/
theorem descriptorFields_of_inRange {block : List Byte} (h : DescriptorInRange block) :
    (descriptorFields block).base.toNat = numberAt block 8 4 ∧ (descriptorFields block).limit.toNat = numberAt block 12 4 ∧
      (descriptorFields block).accessTier.val = (byteAt block 18).toNat := by
  obtain ⟨⟨-, base⟩, -, limit, -, tier⟩ := h
  have largest : maxLimit (granularityField block) ≤ 0x3FFFFF := by cases granularityField block <;> decide
  exact ⟨Nat.mod_eq_of_lt (by omega), Nat.mod_eq_of_lt (by omega), Nat.mod_eq_of_lt (by omega)⟩

/-- Settles O43. -/
theorem descriptorValidity : Obligations.DescriptorValidity := by
  intro block
  dsimp only
  rw [descriptorOf_eq, ← maxLimit_granularityField block, ← effectiveLimit_granularityField block]
  by_cases fits : DescriptorInRange block
  · rw [if_pos fits]
    refine ⟨iff_of_true rfl fits, fun descriptor found => ?_⟩
    obtain ⟨base, limit, tier⟩ := descriptorFields_of_inRange fits
    obtain rfl := Option.some.inj found
    exact ⟨base, limit, rfl, rfl, tier, BitVec.ofNat_toNat ..⟩
  · rw [if_neg fits]
    exact ⟨iff_of_false Bool.false_ne_true fits, fun _ found => nomatch found⟩

end Sys2Proof.Machine
end

section
/-! APERTURE_MODIFY (R75, R76). -/

namespace Sys2Proof.Machine

/-! ### Slots that became STALE -/

/-- A slot that was BOUND is STALE. -/
def freshlyStale : Slot → Slot → Bool
  | .bound _, .stale _ => true
  | _, _ => false

theorem staleEvents_eq (s t : State) (p : PortId) : staleEvents s t p =
    if (allSlots.filter fun k => freshlyStale (s.slot p k) (t.slot p k)) = [] then []
    else [.slotsStale (BitVec.ofNat 8
      ((allSlots.filter fun k => freshlyStale (s.slot p k) (t.slot p k)).map fun k => 2 ^ k.val).sum)] := rfl

/-- Where the slots that became STALE are the BOUND ones that meet a condition, SLOTS_STALE tells their set, whatever became of
the others. -/
theorem staleEvents_of_fresh {s t : State} {p : PortId} {which : SlotCopy → Bool}
    (h : ∀ k, freshlyStale (s.slot p k) (t.slot p k) = boundTo which (s.slot p k)) :
    staleEvents s t p = staleNews (slotSet (s.port p).slots (boundTo which)) := by
  rw [staleEvents_eq, staleNews, if_congr (slotSet_eq_zero_iff ..) rfl rfl, slotSet_eq]
  simp only [h]
  rfl

/-! ### The walk -/

theorem slotsMoved_walkSlots (s : State) (change : PortId → Slot → Slot) : SlotsMoved s (s.walkSlots change) :=
  List.foldlRecOn (motive := SlotsMoved s) _ _ (.refl s) fun _ h _ _ => h.trans (slotsMoved_modPort ..)

theorem slot_walkSlots (s : State) (change : PortId → Slot → Slot) (p : PortId) (k : SlotId) :
    (s.walkSlots change).slot p k = change p (s.slot p k) := by
  have one : ∀ (t : State) (q : PortId),
      (t.modPort q fun port => { port with slots := port.slots.map (change q) }).slot p k =
        if q = p then change p (t.slot p k) else t.slot p k := by
    intro t q
    by_cases same : q = p
    · subst same
      simp [State.slot]
    · simp [State.slot, State.port_modPort_other _ _ same, same]
  have fold : ∀ (list : List PortId) (t : State), list.Nodup → (list.foldl (fun (t : State) (q : PortId) =>
      t.modPort q fun port => { port with slots := port.slots.map (change q) }) t).slot p k =
        if p ∈ list then change p (t.slot p k) else t.slot p k := by
    intro list
    induction list with
    | nil => simp
    | cons q rest ih =>
      intro t nodup
      obtain ⟨fresh, nodup⟩ := List.nodup_cons.1 nodup
      rw [List.foldl_cons, ih _ nodup, one]
      by_cases same : q = p
      · subst same
        simp [fresh]
      · simp [same, Ne.symm same]
  exact (fold allPorts s (by decide)).trans (if_pos (mem_allPorts p))

/-- The state after the fields are replaced and the slots walked, before the events (R75, R76). -/
def State.modifyWalked (s : State) (i : ApIndex) (d : Descriptor) : State :=
  (s.modEntry i (describe d)).walkSlots (modifiedSlot i (s.entry i).generation d)

/-- The copy is of this entry and no longer passes the port and tier tests (R76). -/
def outdated (s : State) (i : ApIndex) (d : Descriptor) (p : PortId) (copy : SlotCopy) : Bool :=
  copyNames i (s.entry i).generation copy && !stillPermitted d p copy

theorem modifyEntry_eq (s : State) (i : ApIndex) (d : Descriptor) :
    s.modifyEntry i d = (s.modifyWalked i d).raiseStaled s (outdated s i d) := rfl

theorem slotsMoved_modifyWalked (s : State) (i : ApIndex) (d : Descriptor) :
    SlotsMoved (s.modEntry i (describe d)) (s.modifyWalked i d) := slotsMoved_walkSlots ..

theorem reports_modifyEntry (s : State) (i : ApIndex) (d : Descriptor) : Reports (s.modifyWalked i d) (s.modifyEntry i d) :=
  reports_raiseStaled ..

theorem slot_modifyEntry (s : State) (i : ApIndex) (d : Descriptor) (p : PortId) (k : SlotId) :
    (s.modifyEntry i d).slot p k = modifiedSlot i (s.entry i).generation d p (s.slot p k) :=
  ((reports_modifyEntry s i d).slot p k).trans (slot_walkSlots ..)

theorem entry_modifyEntry (s : State) (i : ApIndex) (d : Descriptor) (j : ApIndex) :
    (s.modifyEntry i d).entry j = if i = j then describe d (s.entry i) else s.entry j := by
  have walked : (s.modifyWalked i d).entry j = (s.modEntry i (describe d)).entry j := by
    unfold State.entry; rw [(slotsMoved_modifyWalked s i d).apertures]
  rw [(reports_modifyEntry s i d).entry, walked, State.entry_modEntry]

/-- The slots that the walk makes STALE are those whose copies are out of date (R76). -/
theorem freshlyStale_modifiedSlot (s : State) (i : ApIndex) (d : Descriptor) (p : PortId) (slot : Slot) :
    freshlyStale slot (modifiedSlot i (s.entry i).generation d p slot) = boundTo (outdated s i d p) slot := by
  cases slot with
  | bound copy =>
    simp only [modifiedSlot, boundTo, outdated]
    cases copyNames i (s.entry i).generation copy
    · rfl
    · cases stillPermitted d p copy <;> rfl
  | _ => rfl

/-- The events of APERTURE_MODIFY (R76). -/
theorem raised_modifyEntry (s : State) (i : ApIndex) (d : Descriptor) :
    Raised s (s.modifyEntry i d) (staleEvents s (s.modifyEntry i d)) := by
  have walked : Told s (s.modifyWalked i d) fun _ => [] := told_of_slotsMoved (slotsMoved_modifyWalked s i d)
  have news : ∀ p, staleEvents s (s.modifyEntry i d) p = staleNews (slotSet (s.port p).slots (boundTo (outdated s i d p))) :=
    fun p => staleEvents_of_fresh fun k => by rw [slot_modifyEntry, freshlyStale_modifiedSlot]
  refine raised_of_told fun room => ?_
  have stale := told_raiseStaled (s := s.modifyWalked i d) s (which := outdated s i d) fun p => by
    have total := room p
    have start := walked.length p
    rw [news] at total
    simp only [List.length_nil] at start
    omega
  exact (walked.trans stale).congr fun p => by rw [news, List.nil_append]

/-! ### The slot after the walk, by its two tests -/

theorem copyNames_iff {i : ApIndex} {generation : Generation} {copy : SlotCopy} : copyNames i generation copy = true ↔
    handleIndex copy.handle = i ∧ handleGeneration copy.handle = generation := decide_eq_true_iff

theorem stillPermitted_iff {d : Descriptor} {p : PortId} {copy : SlotCopy} : stillPermitted d p copy = true ↔
    d.portMask.getLsbD p.val = true ∧ copy.effectiveTier ≤ d.accessTier := by
  rw [stillPermitted, Bool.and_eq_true, decide_eq_true_iff]

theorem modifiedSlot_bound (i : ApIndex) (generation : Generation) (d : Descriptor) (p : PortId) (copy : SlotCopy) :
    modifiedSlot i generation d p (.bound copy) =
      if handleIndex copy.handle = i ∧ handleGeneration copy.handle = generation then
        if d.portMask.getLsbD p.val = true ∧ copy.effectiveTier ≤ d.accessTier then .bound (refreshCopy d copy) else .stale copy
      else .bound copy := by
  rw [modifiedSlot, if_congr copyNames_iff (if_congr stillPermitted_iff rfl rfl) rfl]

/-! ### The rows -/

section
variable {s : State} {block : List Byte} {i : ApIndex}

theorem doModify_of_bad (argument : indexArgument block = some i) (bad : (s.entry i).parityBad = true)
    (awake : s.device ≠ .halted) : s.doModify block = (s.enterHalted (tableParity i), .rejected .wrongState) := by
  unfold State.doModify
  rw [argument]
  dsimp only
  rw [if_pos bad, State.parityFail, if_neg awake]

theorem doModify_of_not_live (argument : indexArgument block = some i) (good : (s.entry i).parityBad = false)
    (other : (s.entry i).state ≠ .live) : s.doModify block = (s, .rejected .notLive) := by
  unfold State.doModify
  rw [argument]
  dsimp only
  rw [good, if_pos other]
  rfl

theorem doModify_of_invalid (argument : indexArgument block = some i) (good : (s.entry i).parityBad = false)
    (live : (s.entry i).state = .live) (invalid : descriptorOf block = none) :
    s.doModify block = (s, .rejected .badDescriptor) := by
  unfold State.doModify
  rw [argument]
  dsimp only
  rw [good, live, invalid]
  rfl

theorem doModify_of_valid {d : Descriptor} (argument : indexArgument block = some i) (good : (s.entry i).parityBad = false)
    (live : (s.entry i).state = .live) (valid : descriptorOf block = some d) : s.doModify block = (s.modifyEntry i d, .ok []) := by
  unfold State.doModify
  rw [argument]
  dsimp only
  rw [good, live, valid]
  rfl

end

/-- No command of the aperture table but APERTURE_READ is permitted in HALTED (R86, R171). -/
theorem awake_of_modify {s : State} {command : QueuedCommand} (h : s.Executes command .apertureModify) :
    s.popped.device ≠ .halted := by
  obtain ⟨-, -, allowed⟩ := h
  intro halted
  rw [show s.device = .halted from halted] at allowed
  cases allowed

/-- Settles O45: the refusals in their order, then the parts of the state after the walk. -/
theorem apertureModifyWalksTheSlots : Obligations.ApertureModifyWalksTheSlots := by
  refine ⟨fun s command i h named nonzero => ⟨fun bad => ?_, fun good other => ?_, fun good live invalid => ?_⟩,
    fun s command i d h named nonzero good live valid => ?_⟩
  · exact exec_of_executes rfl h (doModify_of_bad (s := s.popped) (indexArgument_of_eq named nonzero) bad (awake_of_modify h))
  · exact exec_of_executes rfl h (doModify_of_not_live (s := s.popped) (indexArgument_of_eq named nonzero) good other)
  · exact exec_of_executes rfl h (doModify_of_invalid (s := s.popped) (indexArgument_of_eq named nonzero) good live invalid)
  · have effect : s.popped.commandEffect command.source command.block .apertureModify = _ :=
      doModify_of_valid (s := s.popped) (indexArgument_of_eq named nonzero) good live valid
    have moved := slotsMoved_modifyWalked s.popped i d
    have told := reports_modifyEntry s.popped i d
    have calm := moved.calm
    refine ⟨_, exec_of_executes rfl h effect, ?_, fun j other => ?_, fun p k => ?_,
      raised_of_popped (raised_modifyEntry s.popped i d), told.holds.trans moved.holds, told.banks.trans ?_,
      told.device.trans moved.device, told.memory.trans calm.memory, told.health.trans calm.health⟩
    · rw [entry_modifyEntry, if_pos rfl, describe, ← live]
      rfl
    · rw [entry_modifyEntry, if_neg other.symm]
      rfl
    · rw [slot_modifyEntry]
      change modifiedSlot i (s.entry i).generation d p (s.slot p k) = _
      cases s.slot p k with
      | bound copy => exact modifiedSlot_bound ..
      | _ => rfl
    · exact (congrArg State.banks moved.rest :)

end Sys2Proof.Machine
end

section
/-! BIND (R89, R90). -/

namespace Sys2Proof.Machine

/-! ### The fields of handles and entries -/

theorem handle_fields (handle : BitVec 16) : (handleIndex handle).val = handle.toNat / 64 ∧
    (handleGeneration handle).toNat = handle.toNat / 4 % 16 ∧ (handleTier handle).val = handle.toNat % 4 := by
  have small := handle.isLt
  simp only [handleIndex, handleGeneration, handleTier, field, Fin.ofNat, BitVec.toNat_ofNat]
  omega

theorem bindHandle_toNat (header : Header) : (bindHandle header).toNat = header.specific % 65536 := by
  simp [bindHandle, field]

theorem entryLimit_toNat (entry : ApEntry) : (entryLimit entry).toNat =
    (if entry.granularity = .unit then entry.limit.toNat else (entry.limit.toNat + 1) * 256 - 1) % 4194304 := by
  unfold entryLimit
  cases entry.granularity <;> exact BitVec.toNat_ofNat ..

/-! ### What an answer leaves -/

theorem fronted_answer (s : State) (p : PortId) (r : Response) : Fronted s (s.answer p r) :=
  (fronted_modPort _ _ _ (by intro; rfl) (by intro; rfl)).trans (fronted_respond ..)

theorem slot_respond (s : State) (p : PortId) (r : Response) (q : PortId) (k : SlotId) :
    (s.respond p r).slot q k = s.slot q k := by
  have freed : (s.setTag p r.tag none).slot q k = s.slot q k := slot_modPort _ _ _ (by intro; rfl) ..
  unfold State.respond
  dsimp only
  split
  · rw [(reports_nextPlace _).slot, slot_modPort _ _ _ (by intro; rfl), freed]
  · rw [(reports_raise ..).slot, (reports_offer ..).slot, freed]

theorem slot_answer (s : State) (p : PortId) (r : Response) (q : PortId) (k : SlotId) : (s.answer p r).slot q k = s.slot q k :=
  (slot_respond ..).trans (slot_modPort _ _ _ (by intro; rfl) ..)

/-- A slot that has changed has changed so after the answer too. -/
theorem SlotChanged.answer {s t : State} {p : PortId} {k : SlotId} {new : Slot} (h : SlotChanged p k new s t) (q : PortId)
    (r : Response) : SlotChanged p k new s (t.answer q r) := by
  obtain ⟨own, others, table⟩ := h
  exact ⟨(slot_answer ..).trans own, fun q j other => (slot_answer ..).trans (others q j other),
    fun i => ((fronted_answer ..).entry i).trans (table i)⟩

/-! ### BIND by its tests -/

section
variable {s : State} {p : PortId} {header : Header} {i : ApIndex}

theorem takeBind_of_null (null : handleIndex (bindHandle header) = 0) : s.takeBind p header =
    (s.setSlot p header.slot .nullBound).answer p { tag := header.tag, status := .ok } := if_pos null

theorem takeBind_of_bad (other : handleIndex (bindHandle header) ≠ 0)
    (bad : (s.entry (handleIndex (bindHandle header))).parityBad = true) : s.takeBind p header =
      (s.parityFail (handleIndex (bindHandle header))).answer p { tag := header.tag, status := .deviceHalted } := by
  unfold State.takeBind
  dsimp only
  rw [if_neg other, if_pos bad]

/-- BIND of a handle whose lookup passes the parity check: the tests of R90 in their order. -/
theorem takeBind_of_good (other : handleIndex (bindHandle header) ≠ 0)
    (good : (s.entry (handleIndex (bindHandle header))).parityBad = false) :
    let handle := bindHandle header
    let entry := s.entry (handleIndex handle)
    let tier := effectiveTier (s.port p).config.tier handle
    s.takeBind p header =
      if entry.state ≠ .live ∨ entry.generation ≠ handleGeneration handle then s.refuseBind p header .noAperture .noAperture
      else if entry.portMask.getLsbD p.val = false then s.refuseBind p header .deniedPort .deniedPort
      else if entry.accessTier < tier then s.refuseBind p header .deniedTier .deniedTier
      else (s.setSlot p header.slot (.bound (copyOf handle tier entry))).answer p { tag := header.tag, status := .ok } := by
  unfold State.takeBind
  dsimp only
  rw [if_neg other, good]
  simp only [Bool.false_eq_true, if_false, Bool.not_eq_true']

end

/-! ### The row -/

section
variable {s : State} {p : PortId} {body : List Byte} {rest : List (List Byte)}

theorem takeKind_bind {header : Header} (kind : header.kind = .bind) : s.takeKind p header body = s.takeBind p header := by
  rw [State.takeKind, kind]

theorem exec_bind {t : State} (takes : s.Takes p body rest) (pass : s.Passes p body .bind)
    (taken : s.takeBind p (headerOf body) = t) (still : Still s t) : exec (.bind p) s = .next t := by
  have ⟨kind, _⟩ := pass
  exact exec_of_passes takes pass (by decide) ((takeKind_bind kind).trans taken) still

theorem exec_bind_of_changed {new : Slot} (takes : s.Takes p body rest) (pass : s.Passes p body .bind)
    (taken : s.takeBind p (headerOf body) =
      (s.setSlot p (headerOf body).slot new).answer p { tag := (headerOf body).tag, status := .ok }) :
    exec (.bind p) s = .next ((s.setSlot p (headerOf body).slot new).answer p { tag := (headerOf body).tag, status := .ok }) ∧
      ∃ t, exec (.bind p) s = .next t ∧ SlotChanged p (headerOf body).slot new s t := by
  have run := exec_bind takes pass taken ((still_setSlot ..).trans (still_answer ..))
  exact ⟨run, _, run, SlotChanged.answer (slotChanged_setSlot ..) ..⟩

/-- BIND of a handle whose lookup fails the parity check: the device is HALTED, so no drain completes after it (R84). -/
theorem exec_bind_of_bad (takes : s.Takes p body rest) (pass : s.Passes p body .bind)
    (other : handleIndex (bindHandle (headerOf body)) ≠ 0)
    (bad : (s.entry (handleIndex (bindHandle (headerOf body)))).parityBad = true) (awake : s.device ≠ .halted) :
    exec (.bind p) s = .next ((s.enterHalted (tableParity (handleIndex (bindHandle (headerOf body))))).answer p
      { tag := (headerOf body).tag, status := .deviceHalted }) := by
  have ⟨kind, _⟩ := pass
  have row := exec_takingOf takes
  rw [kind, takeHead_of_passes takes pass, takeKind_bind kind, takeBind_of_bad other bad, State.parityFail, if_neg awake,
    drainEvent_of_not_draining (by rw [(fronted_answer ..).device, enterHalted_device]; rfl)] at row
  exact row

end

/-- Settles O27: what filling a slot does, the fields of handles, then BIND by its tests in their order. -/
theorem bindFillsTheSlotOrRefuses : Obligations.BindFillsTheSlotOrRefuses := by
  refine ⟨fun s p k new => ⟨slotChanged_setSlot .., ?_, ?_⟩, handle_fields, bindHandle_toNat, entryLimit_toNat,
    fun s p body rest takes pass => ⟨fun null => ?_, fun other good => ?_, fun other bad ready => ?_⟩⟩
  · rw [port_setSlot, if_pos rfl]
  · obtain ⟨table, e⟩ := setSlot_eq s p k new
    rw [e]
    rfl
  · exact exec_bind_of_changed takes pass (takeBind_of_null null)
  · have taken := takeBind_of_good (p := p) other good
    dsimp only at taken ⊢
    split
    · next absent => exact exec_bind takes pass (taken.trans (if_pos absent)) (still_answerOffer ..)
    · next found =>
      rw [if_neg found] at taken
      split
      · next port => exact exec_bind takes pass (taken.trans (if_pos port)) (still_answerOffer ..)
      · next allowed =>
        rw [if_neg allowed] at taken
        split
        · next low => exact exec_bind takes pass (taken.trans (if_pos low)) (still_answerOffer ..)
        · next high => exact exec_bind_of_changed takes pass (taken.trans (if_neg high))
  · have row := exec_bind_of_bad takes pass other bad (by rw [ready]; decide)
    have halted := trained_enterHalted s (tableParity (handleIndex (bindHandle (headerOf body))))
    exact ⟨row, _, row, (fronted_answer ..).device.trans (enterHalted_device ..),
      fun k => (slot_answer ..).trans (halted.slot p k), fun j => ((fronted_answer ..).entry j).trans (halted.entry j)⟩

end Sys2Proof.Machine
end

section
/-! The refusals of data requests in the order of Table 5-4 (R95 to R99, R101). -/

namespace Sys2Proof.Machine

/-! ### The checks of Table 5-4 -/

/-- The checks of a data request against a BOUND slot in their order: the right, the alignment and the bounds (R97 to R99). -/
theorem translate_bound_eq (copy : SlotCopy) (header : Header) : translate (.bound copy) header =
    if rightHeld header.kind copy.rights = false then
      .error { status := .deniedRights, code := .deniedRights, aperture := some (handleIndex copy.handle) }
    else if header.offset % alignment header ≠ 0 then
      .error { status := .badAlign, code := .badAlign, aperture := some (handleIndex copy.handle) }
    else if copy.limit.toNat + 1 < header.offset / 16 + transferUnits header then
      .error { status := .outOfBounds, code := .outOfBounds, aperture := some (handleIndex copy.handle) }
    else .ok { unit := unitOfOffset copy header.offset, length := transferUnits header, aperture := handleIndex copy.handle } := by
  simp only [translate, slotCheck, inBounds, Bool.not_eq_true', decide_eq_false_iff_not, Nat.not_le]

/-! ### The refusal -/

/-- A data request that a check refuses: its answer, then its PROTECTION record (R95, R101). -/
theorem attempt_of_refused {s : State} {p : PortId} {body : List Byte} {status : Status} {code : FaultCode}
    {aperture : Option ApIndex} (found : translate (s.slot p (headerOf body).slot) (headerOf body) =
      .error { status := status, code := code, aperture := aperture }) :
    s.attempt p body = (s.answer p { tag := (headerOf body).tag, status := status }).offer
      (requestOffer code p (headerOf body) aperture) := by
  simp only [State.attempt, found]

section
variable {s : State} {p : PortId} {body : List Byte} {rest : List (List Byte)} {kind : RequestKind} {slot : Slot}
  (takes : s.Takes p body rest) (pass : s.Passes p body kind) (data : kind ∈ [.read, .write, .writeMasked, .atomic])
  (state : s.slot p (headerOf body).slot = slot)
include takes pass data state

theorem exec_data_of_refused {status : Status} {code : FaultCode} {aperture : Option ApIndex}
    (found : translate slot (headerOf body) = .error { status := status, code := code, aperture := aperture }) :
    exec (takingOf kind p) s = .next ((s.answer p { tag := (headerOf body).tag, status := status }).offer
      { code := code, port := some p, tag := some (headerOf body).tag, slot := some (headerOf body).slot,
        aperture := aperture }) :=
  exec_data takes pass data (attempt_of_refused (by rw [state, found])) (still_answerOffer ..)

end

/-- Settles O24: the slot state first, then the checks against the copy of a BOUND slot in their order. -/
theorem dataRequestIsRefusedInOrder : Obligations.DataRequestIsRefusedInOrder := by
  refine ⟨fun rights => ⟨rfl, rfl, rfl, rfl⟩, fun s p body rest kind takes pass data => ⟨fun empty => ?_, fun null => ?_,
    fun copy stale => ?_, fun copy bound => ?_⟩⟩
  · exact exec_data_of_refused takes pass data empty rfl
  · exact exec_data_of_refused takes pass data null rfl
  · exact exec_data_of_refused takes pass data stale rfl
  · have checks := translate_bound_eq copy (headerOf body)
    have ⟨named, _⟩ := pass
    subst named
    dsimp only
    rw [← alignment_eq]
    split
    · next denied => exact exec_data_of_refused takes pass data bound (checks.trans (if_pos denied))
    · next held =>
      rw [if_neg held] at checks
      split
      · next crooked => exact exec_data_of_refused takes pass data bound (checks.trans (if_pos crooked))
      · next aligned =>
        rw [if_neg aligned] at checks
        exact fun beyond => exec_data_of_refused takes pass data bound (checks.trans (if_pos beyond))

end Sys2Proof.Machine
end

section
/-! UNBIND and QUERY_SLOT (R91, R92). -/

namespace Sys2Proof.Machine

/-! ### The record of QUERY_SLOT -/

theorem granularityByte_eq (granularity : Granularity) : granularityByte granularity = if granularity = .unit then 0 else 1 := by
  cases granularity <;> rfl

theorem length_copyRecord (state : Byte) (copy : SlotCopy) : (copyRecord state copy).length = 16 := by
  simp [copyRecord, length_leBytes]

/-- A QUERY_SLOT record is 16 bytes (R92). -/
theorem length_slotRecord (slot : Slot) : (slotRecord slot).length = 16 := by
  cases slot with
  | empty | nullBound => rfl
  | bound copy | stale copy => exact length_copyRecord ..

/-! ### The rows -/

section
variable {s : State} {p : PortId} {body : List Byte} {rest : List (List Byte)} (takes : s.Takes p body rest)
include takes

theorem exec_unbind (pass : s.Passes p body .unbind) : exec (.unbind p) s =
    .next ((s.setSlot p (headerOf body).slot .empty).answer p { tag := (headerOf body).tag, status := .ok }) :=
  exec_of_passes takes pass (by decide) (by rw [State.takeKind, pass.1, State.takeUnbind])
    ((still_setSlot ..).trans (still_answer ..))

theorem exec_querySlot (pass : s.Passes p body .querySlot) : exec (.querySlot p) s =
    .next (s.answer p
      { tag := (headerOf body).tag, status := .ok, payload := slotRecord (s.slot p (headerOf body).slot) }) :=
  exec_of_passes takes pass (by decide) (by rw [State.takeKind, pass.1, State.takeQuery]) (still_answer ..)

end

/-- Settles O28: UNBIND as a change of its slot, then the record of QUERY_SLOT by the slot's state. -/
theorem unbindEmptiesAndQueryReports : Obligations.UnbindEmptiesAndQueryReports := by
  refine fun s p body rest takes => ⟨fun pass => ?_, fun pass => ?_, fun count value => ⟨rfl, rfl⟩⟩
  · have run := exec_unbind takes pass
    exact ⟨run, _, run, SlotChanged.answer (slotChanged_setSlot ..) ..⟩
  · refine ⟨_, length_slotRecord _, exec_querySlot takes pass, ?_⟩
    cases s.slot p (headerOf body).slot with
    | empty | nullBound => rfl
    | bound copy => dsimp only; rw [if_pos rfl, ← granularityByte_eq]; rfl
    | stale copy => dsimp only; rw [if_neg (by simp), ← granularityByte_eq]; rfl

end Sys2Proof.Machine
end

section
/-! No command but the completion of a service that writes changes a byte of memory (R113). -/

namespace Sys2Proof.Machine

/-- The memory array is as before. The staged profile and the timebase, which `Calm` also keeps, may change: a tick and
PROFILE_STAGE touch the array as little as a teardown does. -/
def SameMemory (s t : State) : Prop := t.memory = s.memory

theorem SameMemory.refl (s : State) : SameMemory s s := rfl

theorem SameMemory.trans {a b c : State} (h : SameMemory a b) (k : SameMemory b c) : SameMemory a c := Eq.trans k h

theorem SameMemory.byteOf {s t : State} (h : SameMemory s t) (address : Nat) : t.byteOf address = s.byteOf address :=
  congrArg (fun memory => sparseRead 0 memory address) h

theorem sameMemory_ite {c : Prop} [Decidable c] {s a b : State} (h : SameMemory s a) (k : SameMemory s b) :
    SameMemory s (if c then a else b) := by
  split
  · exact h
  · exact k

theorem Calm.bytes {s t : State} (h : Calm s t) : SameMemory s t := h.memory

theorem Unmoved.bytes {s t : State} (h : Unmoved s t) : SameMemory s t := h.memory

/-! ### Takings -/

theorem calm_setSlotAnswer (s : State) (p : PortId) (k : SlotId) (new : Slot) (r : Response) :
    Calm s ((s.setSlot p k new).answer p r) := (calm_setSlot ..).trans (calm_answer ..)

theorem sameMemory_takeBind (s : State) (p : PortId) (header : Header) : SameMemory s (s.takeBind p header) := by
  have filled : ∀ new, SameMemory s ((s.setSlot p header.slot new).answer p { tag := header.tag, status := .ok }) :=
    fun _ => (calm_setSlotAnswer ..).bytes
  have refused : ∀ status code, SameMemory s (s.refuseBind p header status code) := fun _ _ => (unmoved_answerOffer ..).bytes
  exact sameMemory_ite (filled _) (sameMemory_ite ((unmoved_parityFail ..).trans (unmoved_answer ..)).bytes
    (sameMemory_ite (refused ..) (sameMemory_ite (refused ..) (sameMemory_ite (refused ..) (filled _)))))

theorem sameMemory_takeKind (s : State) (p : PortId) (header : Header) (body : List Byte) :
    SameMemory s (s.takeKind p header body) := by
  unfold State.takeKind
  cases header.kind
  case bind => exact sameMemory_takeBind ..
  case unbind => exact (calm_setSlotAnswer ..).bytes
  case querySlot => exact (calm_answer ..).bytes
  case holdOpen => exact (unmoved_takeHoldOpen ..).bytes
  case holdRelease => exact (unmoved_takeHoldRelease ..).bytes
  case fence => exact (unmoved_takeFence ..).bytes
  case mgmt => exact (unmoved_takeMgmt ..).bytes
  case invalid => exact .refl _
  case read | write | writeMasked | atomic => exact (unmoved_attempt ..).bytes

theorem sameMemory_takeRequest (s : State) (p : PortId) (body : List Byte) : SameMemory s (s.takeRequest p body) := by
  unfold State.takeRequest
  dsimp only
  refine sameMemory_ite (((unmoved_popHead ..).trans (unmoved_offer ..)).trans (unmoved_raise ..)).bytes ?_
  split
  · exact (calm_answer ..).bytes
  · exact sameMemory_ite (sameMemory_takeKind ..) (unmoved_answerOffer ..).bytes

theorem sameMemory_takeHead (s : State) (p : PortId) : SameMemory s (s.takeHead p) := by
  unfold State.takeHead
  split
  · exact .refl _
  · exact sameMemory_ite ((unmoved_popHead ..).trans (unmoved_offer ..)).bytes (sameMemory_takeRequest ..)

/-! ### Due events, settling and ticks -/

/-- A tick touches the timebase, which `Calm` keeps, and not the array (R143). -/
theorem sameMemory_takeTick (s : State) : SameMemory s s.takeTick := (calm_takeTick s).memory

/-- No prompted event is a service (R1). -/
theorem sameMemory_runDue (s : State) (due : Due) : SameMemory s (s.runDue due) := by
  cases due with
  | attempt p => exact (unmoved_reattempt s p).bytes.trans (calm_drainEvent _).bytes
  | take p => exact (sameMemory_takeHead s p).trans (calm_drainEvent _).bytes
  | drain => exact (calm_drainEvent s).bytes
  | tick => exact sameMemory_takeTick s
  | decide b => exact (unmoved_decideBank s b).bytes

theorem sameMemory_settleWhile (go : State → Due → Bool) (fuel : Nat) (s : State) : SameMemory s (settleWhile go fuel s) :=
  settleWhile_induction (P := SameMemory s) (fun _ _ _ k => k.trans (sameMemory_runDue ..)) go fuel s (.refl s)

theorem sameMemory_settle (s : State) : SameMemory s s.settle := sameMemory_settleWhile ..

theorem sameMemory_prompted (s : State) (which : State → Due → Bool) : SameMemory s (s.prompted which) :=
  prompted_induction (P := SameMemory s) (fun _ _ _ k => k.trans (sameMemory_runDue ..)) which s (.refl s)

theorem sameMemory_tickEvent (s : State) : SameMemory s s.tickEvent := by
  have due : SameMemory s s.settleTick.fallDue := (sameMemory_settleWhile ..).trans (unmoved_fallDue _).bytes
  exact sameMemory_ite (due.trans (sameMemory_takeTick _)) due

theorem sameMemory_tickWhen (s : State) (condition : State → Bool) : SameMemory s (s.tickWhen condition) := by
  have before : SameMemory s s.settleTick := sameMemory_settleWhile ..
  exact sameMemory_ite (before.trans ((unmoved_fallDue _).bytes.trans (sameMemory_takeTick _))) before

/-! ### Banks and links -/

theorem serveRead_state (s : State) (b : BankId) (entry : Entry) (scrub log : Bool) :
    (s.serveRead b entry scrub log).state = (s.readUnits b entry scrub log (unitsFrom entry.unit entry.length)).1 := by
  unfold State.serveRead
  dsimp only
  split
  · rfl
  · rfl

theorem eq_read_of_serviceKind {op : EntryOp} (h : serviceKind op = .read) : op = .read := by
  cases op with
  | read => rfl
  | write | writeMasked | atomic => cases h

/-- The completion of a READ cleans health at most (R114, R117). -/
theorem sameMemory_completeRead (s : State) (b : BankId) : SameMemory s (s.complete b .read) := by
  unfold State.complete
  split
  · next entry scrub log _ =>
    split
    · next kind =>
      have read : SameMemory s (s.serve b entry scrub log).state := by
        rw [serve_of_read (eq_read_of_serviceKind kind), serveRead_state]
        exact (readKept_readUnits ..).memory
      exact read.trans (completion_completeEntry s b entry scrub log).calm.bytes
    · exact .refl s
  · exact .refl s

theorem calm_completeRefresh (s : State) (b : BankId) : Calm s (s.completeRefresh b) :=
  (calm_modBank ..).trans (calm_drainTest _)

theorem calm_hostResetPort (s : State) (p : PortId) : Calm s (s.hostResetPort p) :=
  ((calm_teardown s p .hostReset).trans (calm_ite (calm_acceptFreshRequest ..) (.refl _))).trans (calm_finishParity _)

theorem calm_freshRequest (s : State) (p : PortId) : Calm s (s.freshRequest p) := by
  unfold State.freshRequest
  cases (s.link p).state
  case training => exact calm_acceptFreshRequest ..
  case active | retrain => exact calm_hostResetPort ..
  case down | failed => exact .refl _

/-! ### Management commands -/

theorem calm_commit (s : State) : Calm s s.commit := by
  have replaced : Calm s { s with active := s.staged } := ⟨rfl, rfl, rfl, rfl, rfl⟩
  unfold State.commit
  split
  · exact replaced.trans (calm_enterInitializing _)
  · exact replaced
  · exact replaced
  · exact calm_enterDraining ..
  all_goals exact .refl s

theorem calm_doPortConfig (s : State) (source : Source) (block : List Byte) : Calm s (s.doPortConfig source block).1 := by
  unfold State.doPortConfig
  split
  · exact .refl _
  · split
    · exact .refl _
    · exact calm_configure ..

theorem calm_doPortReset (s : State) (source : Source) (block : List Byte) : Calm s (s.doPortReset source block).1 := by
  unfold State.doPortReset
  split
  · exact .refl _
  · split
    · exact .refl _
    · exact calm_resetOfPort ..

theorem calm_doProfileCommit (s : State) : Calm s s.doProfileCommit.1 := by
  unfold State.doProfileCommit
  split
  · exact .refl _
  · exact calm_commit s

theorem calm_doQuiesce (s : State) : Calm s s.doQuiesce.1 := by
  unfold State.doQuiesce
  dsimp only
  exact calm_enterDraining ..

theorem calm_doDatapathReset (s : State) : Calm s s.doDatapathReset.1 := by
  rw [doDatapathReset_eq]
  exact (calm_resetArmed s).trans (calm_settleDrain _)

/-- No command of the catalogue reaches the array (Table 10-5). -/
theorem sameMemory_commandEffect (s : State) (source : Source) (block : List Byte) (command : Command) :
    SameMemory s (s.commandEffect source block command).1 := by
  cases command with
  | regRead => exact (unmoved_doRegRead ..).bytes
  | regWrite => exact (unmoved_doRegWrite ..).bytes
  | apertureCreate => exact (unmoved_doCreate ..).bytes
  | apertureModify => exact (unmoved_doModify ..).bytes
  | apertureRetire => exact (unmoved_doRetire ..).bytes
  | apertureRead => exact (unmoved_doRead ..).bytes
  | portConfig => exact (calm_doPortConfig ..).bytes
  | portReset => exact (calm_doPortReset ..).bytes
  | logPop => exact (unmoved_doLogPop s).bytes
  | logPeek => exact (unmoved_doLogPeek ..).bytes
  | logClear => exact (unmoved_doLogClear s).bytes
  | profileStage => exact (unmoved_doProfileStage ..).bytes
  | profileCommit => exact (calm_doProfileCommit s).bytes
  | quiesce => exact (calm_doQuiesce s).bytes
  | resume => exact (unmoved_doResume s).bytes
  | datapathReset => exact (calm_doDatapathReset s).bytes
  | holdBreak => exact (unmoved_doHoldBreak ..).bytes
  | injectEcc => exact (unmoved_doInjectEcc ..).bytes
  | halt => exact (unmoved_doHalt ..).bytes

theorem sameMemory_runBlock (s : State) (source : Source) (block : List Byte) : SameMemory s (s.runBlock source block).1 := by
  unfold State.runBlock
  split
  · exact .refl _
  · split
    · exact sameMemory_commandEffect ..
    · exact .refl _

theorem sameMemory_concluded (s : State) (command : QueuedCommand) (outcome : Outcome) :
    SameMemory s (s.concluded command outcome) :=
  (calm_finishParity s).bytes.trans
    (((unmoved_recordOutcome ..).trans (unmoved_deliver ..)).trans (unmoved_promptAttempts _)).bytes

theorem sameMemory_execute (s : State) (command : QueuedCommand) : SameMemory s (s.execute command) :=
  ((unmoved_modMgmt s popCommand).bytes.trans (sameMemory_runBlock ..)).trans (sameMemory_concluded ..)

theorem sameMemory_execution (s : State) (which : List Byte → Bool) : SameMemory s (s.execution which) := by
  unfold State.execution
  dsimp only
  split
  · exact sameMemory_ite ((sameMemory_settle s).trans (sameMemory_execute ..)) (sameMemory_settle s)
  · exact sameMemory_settle s

/-! ### Every command -/

/-- Every command but the completions that write leaves the memory array as it is: its own effect is on the settled state, and
settling runs no service (R1, R113). -/
theorem exec_sameMemory {i : Instr} (other : ∀ b, i ≠ .writeService b ∧ i ≠ .writeMaskedService b ∧ i ≠ .atomicService b ∧
    i ≠ .clearingService b) (fence : ∀ p, i ≠ .fenceAnswer p) (s : State) : ∃ t, exec i s = .next t ∧ SameMemory s t := by
  have settled := sameMemory_settle s
  have unmoved : ∀ {t}, Unmoved s.settle t → SameMemory s t := fun h => settled.trans h.bytes
  cases i
  case writeService b => exact absurd rfl (other b).1
  case writeMaskedService b => exact absurd rfl (other b).2.1
  case atomicService b => exact absurd rfl (other b).2.2.1
  case clearingService b => exact absurd rfl (other b).2.2.2
  case fenceAnswer p => exact absurd rfl (fence p)
  case resetNAssert => exact ⟨_, rfl, .refl s⟩
  case resetNRelease => exact ⟨_, rfl, sameMemory_ite (unmoved_setDevice ..).bytes (.refl s)⟩
  case tick => exact ⟨_, rfl, sameMemory_tickEvent s⟩
  case calibrationEnd | refreshObligation | holdExpiry | ackTimeout | trainingTimeout =>
    exact ⟨_, rfl, sameMemory_tickWhen ..⟩
  case memoryDisturbance => exact ⟨_, rfl, settled⟩
  case tableDisturbance => exact ⟨_, rfl, sameMemory_ite settled (settled.trans (calm_modEntry ..).bytes)⟩
  case malformedParcel => exact ⟨_, rfl, sameMemory_ite (unmoved (unmoved_modLink ..)) settled⟩
  case receiveData =>
    exact ⟨_, rfl, sameMemory_ite (unmoved (unmoved_modLink ..))
      (sameMemory_ite (unmoved ((unmoved_processAck ..).trans (unmoved_classify ..))) settled)⟩
  case receiveAck => exact ⟨_, rfl, sameMemory_ite (unmoved (unmoved_processAck ..)) settled⟩
  case receiveNak =>
    exact ⟨_, rfl, sameMemory_ite (sameMemory_ite (unmoved (unmoved_replayFrom ..)) (unmoved (unmoved_offer ..))) settled⟩
  case receiveTrainReq | hostReset => exact ⟨_, rfl, settled.trans (calm_freshRequest ..).bytes⟩
  case receiveRetrainReq => exact ⟨_, rfl, unmoved (unmoved_retrainRequest ..)⟩
  case receiveTrainAck => exact ⟨_, rfl, unmoved (unmoved_trainAnswer ..)⟩
  case sendTrainAck | sendTrainReq | sendNak | sendRetransmit | sendNewData | sendAck =>
    exact ⟨_, rfl, unmoved (unmoved_sendOf ..)⟩
  case shortRequest | read | write | writeMasked | atomic | bind | unbind | querySlot | holdOpen | holdRelease | fence |
      mgmt | invalidRequestKind | admissionReattempt | bankDecision | drainComplete =>
    exact ⟨_, rfl, sameMemory_prompted ..⟩
  case readService => exact ⟨_, rfl, settled.trans (sameMemory_completeRead ..)⟩
  case refreshComplete =>
    exact ⟨_, rfl, sameMemory_ite (settled.trans ((calm_completeRefresh ..).trans (calm_finishParity _)).bytes) settled⟩
  case spiStatus =>
    exact ⟨_, rfl, unmoved (unmoved_ite (unmoved_drive ..) ((unmoved_drive ..).trans (unmoved_modMgmt ..)))⟩
  case spiResult => exact ⟨_, rfl, unmoved (unmoved_drive ..)⟩
  case spiSubmit =>
    exact ⟨_, rfl, (sameMemory_settleWhile ..).trans
      (unmoved_ite (unmoved_drive ..) ((unmoved_submit ..).trans (unmoved_drive ..))).bytes⟩
  case spiBadOpcode =>
    exact ⟨_, rfl, unmoved (unmoved_ite (unmoved_drive ..) (unmoved_ite (.refl _)
      (((unmoved_modMgmt ..).trans (unmoved_offer ..)).trans (unmoved_drive ..))))⟩
  all_goals exact ⟨_, rfl, sameMemory_execution ..⟩

/-- Settles O60. -/
theorem onlyServicesChangeMemory : Obligations.OnlyServicesChangeMemory := by
  intro i s t other fence run address
  obtain ⟨after, e, same⟩ := exec_sameMemory other fence s
  cases e.symm.trans run
  exact same.byteOf address

end Sys2Proof.Machine
end

section
/-! Disturbances of the memory array and of the aperture table (R70, R84, R113). -/

namespace Sys2Proof.Machine

/-- A struck unit reads as it was struck, unless it was past repair already (R113). -/
theorem worseHealth_of_struck {struck : Health} (h : struck ≠ .clean) (old : Health) :
    worseHealth old struck = if old = .uncorrectable then .uncorrectable else struck := by
  cases struck with
  | clean => exact absurd rfl h
  | correctable => cases old <;> rfl
  | uncorrectable => cases old <;> rfl

theorem exec_memoryDisturbance {s : State} (settled : s.Settled) (unit : UnitAddr) (health : Health) :
    exec (.memoryDisturbance unit health) s = .next (s.setHealth unit (worseHealth (s.unitHealth unit) health)) := by
  simp only [exec, execMemoryDisturbance, settle_of_settled settled]

theorem exec_tableDisturbance {s : State} (settled : s.Settled) (awake : s.device ≠ .reset) (i : ApIndex) (bit : StoredBit) :
    exec (.tableDisturbance i bit) s = .next (s.modEntry i (disturbEntry i bit)) := by
  simp only [exec, execTableDisturbance, settle_of_settled settled, if_neg awake]

/-- An entry that requests can name is struck in its one bit (R84). -/
theorem disturbEntry_of_usable {i : ApIndex} (usable : i ≠ 0) (bit : StoredBit) (entry : ApEntry) :
    disturbEntry i bit entry = { strikeBit bit entry with parityBad := true } := by rw [disturbEntry, if_neg usable]

/-- Settles O8: the struck unit, then the struck entry, each with its frame. -/
theorem disturbancesStrikeOnePlace : Obligations.DisturbancesStrikeOnePlace := by
  refine ⟨fun s unit health settled wf struck => ?_, fun s i bit settled awake usable => ?_⟩
  · refine ⟨_, exec_memoryDisturbance settled unit health, ?_, fun other apart => ?_, rfl⟩
    · rw [State.unitHealth_setHealth wf, if_pos rfl, worseHealth_of_struck struck]
    · rw [State.unitHealth_setHealth wf, if_neg apart]
  · refine ⟨_, exec_tableDisturbance settled awake i bit, ?_, fun j apart => ?_, rfl⟩
    · rw [State.entry_modEntry_same, disturbEntry_of_usable usable]
      cases bit <;> rfl
    · rw [State.entry_modEntry, if_neg apart.symm]

end Sys2Proof.Machine
end

section
/-! Bank decisions (R110 to R112). -/

namespace Sys2Proof.Machine

/-! ### Eligibility -/

/-- An entry is eligible behind the entries admitted before it (R112). -/
def Eligible (older : List Entry) (entry : Entry) : Prop :=
  entry.parkedOn = none ∧ ∀ other ∈ older, entriesOverlap entry other = false

/-- The test of the walk along a queue is eligibility. -/
theorem eligible_iff (older : List Entry) (entry : Entry) :
    (entry.parkedOn = none ∧ !older.any (entriesOverlap entry)) ↔ Eligible older entry := by simp [Eligible]

theorem firstEligible_cons_of_eligible {older : List Entry} {entry : Entry} (h : Eligible older entry) (rest : List Entry) :
    firstEligible older (entry :: rest) = some entry := by rw [firstEligible, if_pos ((eligible_iff ..).2 h)]

theorem firstEligible_cons_of_not {older : List Entry} {entry : Entry} (h : ¬Eligible older entry) (rest : List Entry) :
    firstEligible older (entry :: rest) = firstEligible (older ++ [entry]) rest := by
  rw [firstEligible, if_neg (mt (eligible_iff ..).1 h)]

/-- The entry that the walk finds is eligible, and none that it passed is; `seen` is what the walk has passed before. -/
theorem firstEligible_eq_some {entry : Entry} : ∀ (queue seen : List Entry), firstEligible seen queue = some entry →
    ∃ older newer, queue = older ++ entry :: newer ∧ Eligible (seen ++ older) entry ∧
      ∀ before other between, older = before ++ other :: between → ¬Eligible (seen ++ before) other
  | [], _, found => by simp [firstEligible] at found
  | head :: rest, seen, found => by
    by_cases eligible : Eligible seen head
    · rw [firstEligible_cons_of_eligible eligible] at found
      cases found
      exact ⟨[], rest, rfl, by simpa using eligible, by simp⟩
    · rw [firstEligible_cons_of_not eligible] at found
      obtain ⟨older, newer, place, own, passed⟩ := firstEligible_eq_some rest (seen ++ [head]) found
      refine ⟨head :: older, newer, by rw [place]; rfl, by simpa using own, fun before other between parts => ?_⟩
      cases before with
      | nil =>
        cases parts
        simpa using eligible
      | cons first before =>
        cases parts
        simpa using passed before other between rfl

/-- Where the walk finds no entry, none is eligible behind the entries before it. -/
theorem not_eligible_of_firstEligible_eq_none {entry : Entry} : ∀ (older newer seen : List Entry),
    firstEligible seen (older ++ entry :: newer) = none → ¬Eligible (seen ++ older) entry
  | [], newer, seen, nothing, eligible => by
    rw [List.append_nil] at eligible
    rw [List.nil_append, firstEligible_cons_of_eligible eligible] at nothing
    cases nothing
  | head :: older, newer, seen, nothing, eligible => by
    have passed : ¬Eligible seen head := fun own => by
      rw [List.cons_append, firstEligible_cons_of_eligible own] at nothing
      cases nothing
    rw [List.cons_append, firstEligible_cons_of_not passed] at nothing
    exact not_eligible_of_firstEligible_eq_none older newer (seen ++ [head]) nothing (by simpa using eligible)

/-! ### The decision -/

theorem exec_bankDecision {s : State} {b : BankId} (due : s.nextDue = some (.decide b)) :
    exec (.bankDecision b) s = .next (s.decideBank b) :=
  congrArg Host.Outcome.next (prompted_of_due due (decide_eq_true rfl))

/-- The banks after a decision (R111). -/
theorem bank_decideBank (s : State) (b c : BankId) : (s.decideBank b).bank c =
    if b = c then { s.bank b with state := s.decision (s.bank b), decisionDue := false } else s.bank c :=
  State.bank_modBank s b c fun bank => { bank with state := s.decision bank, decisionDue := false }

/-- Settles O33: the walk along the queue, then the decision with its frame. -/
theorem bankDecisionFollowsProcedure : Obligations.BankDecisionFollowsProcedure := by
  refine ⟨fun queue => ⟨fun entry found => firstEligible_eq_some queue [] found, fun nothing older entry newer place => ?_⟩,
    fun s b due => ?_⟩
  · subst place
    exact not_eligible_of_firstEligible_eq_none older newer [] nothing
  · have own := (bank_decideBank s b b).trans (if_pos rfl)
    refine ⟨_, exec_bankDecision due, ?_, ?_, fun c apart => (bank_decideBank s b c).trans (if_neg apart.symm), rfl⟩
    · rw [own]; rfl
    · rw [own]

end Sys2Proof.Machine
end

section
/-! The bank mapping (R104). -/

namespace Sys2Proof.Machine

theorem val_bankOf_interleave (a : Nat) : (bankOf .interleave a).val = a / 4 % 8 := rfl

theorem localOf_interleave (a : Nat) : localOf .interleave a = a / 32 * 4 + a % 4 := rfl

theorem val_bankOf_linear {a : Nat} (h : a < 4194304) : (bankOf .linear a).val = a / 524288 := by
  change a / 524288 % 8 = a / 524288
  omega

theorem localOf_linear (a : Nat) : localOf .linear a = a % 524288 := rfl

theorem localOf_lt (map : BankMap) {a : Nat} (h : a < 4194304) : localOf map a < 524288 := by
  cases map with
  | interleave => rw [localOf_interleave]; omega
  | linear => rw [localOf_linear]; omega

/-- The four units of a granule lie in one bank at consecutive places (R104). -/
theorem bankOf_granule (map : BankMap) {a k : Nat} (h : a < 4194304) (aligned : a % 4 = 0) (few : k < 4) :
    bankOf map (a + k) = bankOf map a ∧ localOf map (a + k) = localOf map a + k := by
  rw [Fin.ext_iff]
  cases map with
  | interleave => simp only [val_bankOf_interleave, localOf_interleave]; omega
  | linear =>
    have room : a + k < 4194304 := by omega
    rw [val_bankOf_linear h, val_bankOf_linear room, localOf_linear, localOf_linear]
    omega

/-- The bank and the place in it name the unit (R104). -/
theorem unit_of_bank_local {map : BankMap} {a b : Nat} (ha : a < 4194304) (hb : b < 4194304)
    (bank : bankOf map a = bankOf map b) (place : localOf map a = localOf map b) : a = b := by
  rw [Fin.ext_iff] at bank
  cases map with
  | interleave =>
    rw [val_bankOf_interleave, val_bankOf_interleave] at bank
    rw [localOf_interleave, localOf_interleave] at place
    omega
  | linear =>
    rw [val_bankOf_linear ha, val_bankOf_linear hb] at bank
    rw [localOf_linear, localOf_linear] at place
    omega

/-- The unit at a place of a bank: the mapping of R104 read backwards. -/
def unitAt (map : BankMap) (bank : BankId) (place : Nat) : Nat :=
  match map with
  | .interleave => place / 4 * 32 + bank.val * 4 + place % 4
  | .linear => bank.val * 524288 + place

theorem unitAt_maps (map : BankMap) (bank : BankId) {place : Nat} (h : place < 524288) :
    unitAt map bank place < 4194304 ∧ bankOf map (unitAt map bank place) = bank ∧ localOf map (unitAt map bank place) = place := by
  have few := bank.isLt
  rw [Fin.ext_iff]
  cases map with
  | interleave => rw [val_bankOf_interleave, localOf_interleave, unitAt]; omega
  | linear =>
    have room : bank.val * 524288 + place < 4194304 := by omega
    rw [unitAt, val_bankOf_linear room, localOf_linear]
    omega

/-- Settles O32. -/
theorem bankMappingIsOneToOne : Obligations.BankMappingIsOneToOne :=
  ⟨fun _ _ => rfl,
    fun a h => ⟨val_bankOf_interleave a, localOf_interleave a, val_bankOf_linear h, localOf_linear a⟩,
    fun map => ⟨fun _ h => localOf_lt map h, fun _ h aligned _ few => bankOf_granule map h aligned few,
      fun _ ha _ hb => unit_of_bank_local ha hb, fun bank place h => ⟨unitAt map bank place, unitAt_maps map bank h⟩⟩⟩

end Sys2Proof.Machine
end

section
/-! The operations that leave the hold table as it is: all but HOLD_OPEN, HOLD_RELEASE, HOLD_BREAK, the ticks, and the teardowns,
drains and retirements that break holds (R127, R134). Each lemma follows from those of the operations that it is made of, which
stand in the set of `simp`. -/

namespace Sys2Proof.Machine

/-! ### Reports and responses -/

@[simp] theorem holds_ite {c : Prop} [Decidable c] (a b : State) : (if c then a else b).holds = if c then a.holds else b.holds :=
  apply_ite ..

/-- A fold of steps that leave the hold table leaves it. -/
theorem holds_foldl {α : Type} {f : State → α → State} (h : ∀ s a, (f s a).holds = s.holds) (list : List α) (s : State) :
    (list.foldl f s).holds = s.holds :=
  List.foldlRecOn (motive := fun (t : State) => t.holds = s.holds) _ _ rfl fun _ k _ _ => (h ..).trans k

@[simp] theorem holds_offer (s : State) (fault : Offer) : (s.offer fault).holds = s.holds := (reports_offer s fault).holds
@[simp] theorem holds_raise (s : State) (p : PortId) (e : Event) : (s.raise p e).holds = s.holds := (reports_raise s p e).holds
@[simp] theorem holds_attentionTest (s : State) : s.attentionTest.holds = s.holds := (reports_attentionTest s).holds

@[simp] theorem holds_respond (s : State) (p : PortId) (r : Response) : (s.respond p r).holds = s.holds := by
  simp [State.respond]

@[simp] theorem holds_answer (s : State) (p : PortId) (r : Response) : (s.answer p r).holds = s.holds := by
  simp [State.answer]

@[simp] theorem holds_fenceTest (s : State) (p : PortId) : (s.fenceTest p).holds = s.holds := by simp [State.fenceTest]

/-! ### Requests -/

@[simp] theorem holds_setSlot (s : State) (p : PortId) (k : SlotId) (new : Slot) : (s.setSlot p k new).holds = s.holds := by
  obtain ⟨table, e⟩ := setSlot_eq s p k new
  rw [e]
  rfl

@[simp] theorem holds_attempt (s : State) (p : PortId) (body : List Byte) : (s.attempt p body).holds = s.holds := by
  unfold State.attempt
  dsimp only
  split
  · simp
  · simp [State.admission, State.waitSpace]

@[simp] theorem holds_parityFail (s : State) (i : ApIndex) : (s.parityFail i).holds = s.holds := (trained_parityFail s i).holds

@[simp] theorem holds_takeBind (s : State) (p : PortId) (header : Header) : (s.takeBind p header).holds = s.holds := by
  simp [State.takeBind, State.refuseBind]

@[simp] theorem holds_takeFence (s : State) (p : PortId) (header : Header) : (s.takeFence p header).holds = s.holds := by
  simp [State.takeFence]

@[simp] theorem holds_takeMgmt (s : State) (p : PortId) (header : Header) (body : List Byte) :
    (s.takeMgmt p header body).holds = s.holds := by simp [State.takeMgmt, State.denyMgmt]

/-! ### Links -/

@[simp] theorem holds_enterRetrain (s : State) (p : PortId) (cause : FaultCode) : (s.enterRetrain p cause).holds = s.holds := by
  simp [State.enterRetrain]

@[simp] theorem holds_processAck (s : State) (p : PortId) (ack : Seq) : (s.processAck p ack).holds = s.holds := by
  simp [State.processAck]

@[simp] theorem holds_replayDue (s : State) (p : PortId) : (s.replayDue p).holds = s.holds := by simp [State.replayDue]

@[simp] theorem holds_trainingTest (s : State) (p : PortId) : (s.trainingTest p).holds = s.holds := by
  unfold State.trainingTest
  dsimp only
  split
  · split
    · rfl
    · split <;> simp
    · rfl
  · rfl

@[simp] theorem holds_acceptFreshRequest (s : State) (p : PortId) : (s.acceptFreshRequest p).holds = s.holds := by
  simp [State.acceptFreshRequest]

@[simp] theorem holds_acceptRetrainRequest (s : State) (p : PortId) (ack : Seq) :
    (s.acceptRetrainRequest p ack).holds = s.holds := by simp [State.acceptRetrainRequest]

@[simp] theorem holds_retrainRequest (s : State) (p : PortId) (ack : Seq) : (s.retrainRequest p ack).holds = s.holds := by
  unfold State.retrainRequest
  split <;> simp

@[simp] theorem holds_trainAnswer (s : State) (p : PortId) (fresh : Bool) (ack : Seq) :
    (s.trainAnswer p fresh ack).holds = s.holds := by
  unfold State.trainAnswer
  split <;> simp

@[simp] theorem holds_sendOf (s : State) (p : PortId) (kind : SendKind) : (s.sendOf p kind).holds = s.holds := by
  unfold State.sendOf State.sendParcel
  cases kind <;> simp

@[simp] theorem holds_replayFrom (s : State) (p : PortId) (ack : Seq) : (s.replayFrom p ack).holds = s.holds := by
  simp [State.replayFrom]

@[simp] theorem holds_classify (s : State) (p : PortId) (seq : Seq) (body : List Byte) :
    (s.classify p seq body).holds = s.holds := by simp [State.classify, State.acceptExpected]

/-! ### Device states and the aperture table -/

@[simp] theorem holds_enterReady (s : State) : s.enterReady.holds = s.holds := (trained_enterReady s).holds
@[simp] theorem holds_enterHalted (s : State) (cause : Offer) : (s.enterHalted cause).holds = s.holds :=
  (trained_enterHalted s cause).holds
@[simp] theorem holds_finishParity (s : State) : s.finishParity.holds = s.holds := (trained_finishParity s).holds

@[simp] theorem holds_freeEntry (s : State) (i : ApIndex) : (s.freeEntry i).holds = s.holds := (reports_raiseFreed ..).holds

@[simp] theorem holds_stalePortSlots (s : State) (p : PortId) (which : SlotCopy → Bool) :
    (s.stalePortSlots p which).holds = s.holds := by simp [State.stalePortSlots, State.stalePort, State.raiseStale]

@[simp] theorem holds_modifyEntry (s : State) (i : ApIndex) (d : Descriptor) : (s.modifyEntry i d).holds = s.holds :=
  (reports_modifyEntry s i d).holds.trans (slotsMoved_modifyWalked s i d).holds

@[simp] theorem holds_forceFree (s : State) (i : ApIndex) : (s.forceFree i).holds = s.holds := by
  rw [State.forceFree, (reports_raiseFreed ..).holds]
  rfl

@[simp] theorem holds_settleInFlight (s : State) (i : ApIndex) : (s.settleInFlight i).holds = s.holds := by
  simp [State.settleInFlight, State.lookupDrained, State.dropInFlight]

/-! ### Services -/

@[simp] theorem holds_countCorrected (s : State) (b : BankId) : (s.countCorrected b).holds = s.holds := rfl

@[simp] theorem holds_writeUnit (s : State) (unit : UnitAddr) (data : List Byte) : (s.writeUnit unit data).holds = s.holds := by
  unfold State.writeUnit
  dsimp only
  split <;> simp

@[simp] theorem holds_writeUnits : ∀ (units : List UnitAddr) (s : State) (data : List Byte),
    (s.writeUnits units data).holds = s.holds
  | [], _, _ => rfl
  | unit :: rest, s, _ => (holds_writeUnits rest _ _).trans (holds_writeUnit s unit _)

@[simp] theorem holds_readUnits (b : BankId) (entry : Entry) (scrub log : Bool) : ∀ (units : List UnitAddr) (s : State),
    (s.readUnits b entry scrub log units).1.holds = s.holds
  | [], _ => rfl
  | unit :: rest, s => by
    unfold State.readUnits
    split <;> simp [holds_readUnits b entry scrub log rest]

@[simp] theorem holds_serveModify (s : State) (b : BankId) (entry : Entry) (log : Bool)
    (change : List Byte → List Byte × Bool × List Byte) : (s.serveModify b entry log change).state.holds = s.holds := by
  unfold State.serveModify
  dsimp only
  split <;> simp

@[simp] theorem holds_serve (s : State) (b : BankId) (entry : Entry) (scrub log : Bool) :
    (s.serve b entry scrub log).state.holds = s.holds := by
  unfold State.serve
  split
  · rw [serveRead_state, holds_readUnits]
  · exact holds_writeUnits ..
  · exact holds_serveModify ..
  · exact holds_serveModify ..

@[simp] theorem holds_completeEntry (s : State) (b : BankId) (entry : Entry) (scrub log : Bool) :
    (s.completeEntry b entry scrub log).holds = s.holds := by
  simp [State.completeEntry, State.respondServed, (reports_offerAll ..).holds]

@[simp] theorem holds_complete (s : State) (b : BankId) (kind : ServiceKind) : (s.complete b kind).holds = s.holds := by
  unfold State.complete
  split <;> simp

@[simp] theorem holds_clearUnits (s : State) (b : BankId) (position : Nat) : (s.clearUnits b position).holds = s.holds := rfl

@[simp] theorem holds_completeClearing (s : State) (b : BankId) : (s.completeClearing b).holds = s.holds := by
  unfold State.completeClearing
  dsimp only
  split
  · split <;> simp
  · simp

/-! ### Management commands -/

theorem holds_writeRegister {s after : State} {value : Nat} {register : Register}
    (h : s.writeRegister value register = some after) : after.holds = s.holds := by
  cases register <;> simp only [State.writeRegister, reduceCtorEq, Option.some.injEq] at h <;> subst h <;> simp

@[simp] theorem holds_doRegRead (s : State) (block : List Byte) : (s.doRegRead block).1.holds = s.holds := by
  unfold State.doRegRead
  split <;> rfl

@[simp] theorem holds_doRegWrite (s : State) (block : List Byte) : (s.doRegWrite block).1.holds = s.holds := by
  unfold State.doRegWrite
  split
  · rfl
  · split
    · next written => exact holds_writeRegister written
    · rfl

@[simp] theorem holds_doCreate (s : State) (block : List Byte) : (s.doCreate block).1.holds = s.holds := by
  unfold State.doCreate
  split
  · rfl
  · split
    · simp
    · split
      · rfl
      · split <;> simp

@[simp] theorem holds_doModify (s : State) (block : List Byte) : (s.doModify block).1.holds = s.holds := by
  unfold State.doModify
  split
  · rfl
  · split
    · simp
    · split
      · rfl
      · split <;> simp

@[simp] theorem holds_doRead (s : State) (block : List Byte) : (s.doRead block).1.holds = s.holds := by
  unfold State.doRead
  split <;> simp

@[simp] theorem holds_doLogPop (s : State) : s.doLogPop.1.holds = s.holds := by
  unfold State.doLogPop
  split <;> simp

@[simp] theorem holds_doLogPeek (s : State) (block : List Byte) : (s.doLogPeek block).1.holds = s.holds := by
  unfold State.doLogPeek
  split <;> rfl

@[simp] theorem holds_doLogClear (s : State) : s.doLogClear.1.holds = s.holds := by simp [State.doLogClear]

@[simp] theorem holds_doProfileStage (s : State) (block : List Byte) : (s.doProfileStage block).1.holds = s.holds := by
  unfold State.doProfileStage
  split <;> rfl

@[simp] theorem holds_doResume (s : State) : s.doResume.1.holds = s.holds := by simp [State.doResume]

@[simp] theorem holds_doInjectEcc (s : State) (block : List Byte) : (s.doInjectEcc block).1.holds = s.holds := by
  unfold State.doInjectEcc
  split <;> rfl

@[simp] theorem holds_doHalt (s : State) (source : Source) : (s.doHalt source).1.holds = s.holds := by simp [State.doHalt]

@[simp] theorem holds_submit (s : State) (block : List Byte) : (s.submit block).holds = s.holds := by
  simp [State.submit, State.refuseSubmit, State.appendSubmit]

@[simp] theorem holds_concluded (s : State) (command : QueuedCommand) (outcome : Outcome) :
    (s.concluded command outcome).holds = s.holds := by
  have recorded : ∀ t : State, (t.recordOutcome command.source command.block outcome).holds = t.holds := by
    intro t
    unfold State.recordOutcome
    split <;> simp
  have delivered : ∀ t : State, (t.deliver command.source command.block outcome).holds = t.holds := by
    intro t
    unfold State.deliver
    dsimp only
    split <;> simp
  simp [State.concluded, recorded, delivered]

end Sys2Proof.Machine
end

section
/-! Every event keeps the ranges of ACTIVE holds apart and no port with more than four: a hold ends, counts down or is granted where
R130 lets it be (R127, R130, R131, R134, R136). -/

namespace Sys2Proof.Machine

/-! ### The hold table -/

/-- An event keeps the two invariants of the hold table. -/
structure KeepsApart (s t : State) : Prop where
  apart : s.HoldsApart → t.HoldsApart

theorem KeepsApart.refl (s : State) : KeepsApart s s := ⟨id⟩

theorem KeepsApart.trans {a b c : State} (h : KeepsApart a b) (k : KeepsApart b c) : KeepsApart a c := ⟨k.apart ∘ h.apart⟩

/-- What leaves the hold table keeps the invariants. -/
theorem keepsApart_of_holds {s t : State} (same : t.holds = s.holds) : KeepsApart s t where
  apart h := ⟨by unfold State.hold; rw [same]; exact h.apart, by unfold State.ownedHolds; rw [same]; exact h.owned⟩

/-- An event that goes on with what leaves the hold table. -/
theorem KeepsApart.holding {a b c : State} (h : KeepsApart a b) (same : c.holds = b.holds) : KeepsApart a c :=
  h.trans (keepsApart_of_holds same)

theorem keepsApart_ite {c : Prop} [Decidable c] {s a b : State} (h : KeepsApart s a) (k : KeepsApart s b) :
    KeepsApart s (if c then a else b) := by
  split
  · exact h
  · exact k

theorem keepsApart_foldl {α : Type} {f : State → α → State} (h : ∀ s a, KeepsApart s (f s a)) (list : List α) (s : State) :
    KeepsApart s (list.foldl f s) :=
  List.foldlRecOn (motive := KeepsApart s) _ _ (.refl s) fun _ k _ _ => k.trans (h _ _)

/-- The port owns the hold entry (R130). -/
def ownedBy (p : PortId) (entry : Option Hold) : Bool := entry.any fun hold => decide (hold.owner = p)

theorem ownedHolds_eq (s : State) (p : PortId) : s.ownedHolds p = s.holds.toList.countP (ownedBy p) :=
  List.countP_eq_length_filter.symm

theorem holds_toList (s : State) : s.holds.toList = allHolds.map s.hold := by
  refine List.ext_getElem (by simp [allHolds]) fun n _ _ => ?_
  simp [allHolds, State.hold]

/-! ### Holds that end or count down -/

/-- Every ACTIVE hold was ACTIVE before, of the same owner and over the same units. -/
def NoNewHold (s t : State) : Prop := ∀ h new, t.hold h = some new →
  ∃ old, s.hold h = some old ∧ old.owner = new.owner ∧ old.first = new.first ∧ old.span = new.span

theorem ownedHolds_mono {s t : State} (fewer : NoNewHold s t) (p : PortId) : t.ownedHolds p ≤ s.ownedHolds p := by
  rw [ownedHolds_eq, ownedHolds_eq, holds_toList, holds_toList, List.countP_map, List.countP_map]
  refine List.countP_mono_left fun h _ owned => ?_
  obtain ⟨new, found, own⟩ := (Option.any_eq_true ..).1 owned
  obtain ⟨old, stood, owner, -, -⟩ := fewer h new found
  exact (Option.any_eq_true ..).2 ⟨old, stood, owner ▸ own⟩

theorem NoNewHold.keepsApart {s t : State} (fewer : NoNewHold s t) : KeepsApart s t := by
  refine ⟨fun inv => ?_⟩
  refine ⟨fun g h other first second foundG foundH => ?_, fun p => (ownedHolds_mono fewer p).trans (inv.owned p)⟩
  obtain ⟨a, stoodG, -, firstG, spanG⟩ := fewer g first foundG
  obtain ⟨b, stoodH, -, firstH, spanH⟩ := fewer h second foundH
  rw [← firstG, ← spanG, ← firstH, ← spanH]
  exact inv.apart g h other a b stoodG stoodH

/-- Holds that become FREE, the others staying. -/
theorem keepsApart_of_ended {s t : State} {which : HoldId → Bool}
    (ended : ∀ h, t.hold h = if which h then none else s.hold h) : KeepsApart s t := by
  refine NoNewHold.keepsApart fun h new found => ?_
  rw [ended, Option.ite_none_left_eq_some] at found
  exact ⟨new, found.2, rfl, rfl, rfl⟩

theorem keepsApart_endHold (s : State) (h : HoldId) (cause : HoldEnd) : KeepsApart s (s.endHold h cause) :=
  keepsApart_of_ended (which := fun g => decide (g = h)) fun g => by rw [hold_endHold]; simp

theorem keepsApart_endHolds (s : State) (cause : HoldEnd) (which : Hold → Bool) : KeepsApart s (s.endHolds cause which) :=
  keepsApart_of_ended (hold_endHolds s cause which)

/-- A count of a tick leaves owners and ranges (R136). -/
theorem keepsApart_counted (s : State) : KeepsApart s s.counted := by
  refine NoNewHold.keepsApart fun h new found => ?_
  have counts : s.counted.hold h = countHold (s.hold h) := by simp [State.hold, State.counted]
  rw [counts] at found
  obtain ⟨old, stood, rfl⟩ := Option.map_eq_some_iff.1 found
  exact ⟨old, stood, rfl, rfl, rfl⟩

/-! ### Holds that are granted -/

theorem overlaps_comm (first : UnitAddr) (length : Nat) (other : UnitAddr) (otherLength : Nat) :
    overlaps first length other otherLength = overlaps other otherLength first length := by
  simp only [overlaps, and_comm]

theorem ownedHolds_setHold {s : State} {h : HoldId} (free : s.hold h = none) (new : Hold) (p : PortId) :
    (s.setHold h (some new)).ownedHolds p = s.ownedHolds p + if new.owner = p then 1 else 0 := by
  have place : s.holds.toList[h.val]'(by simp) = none := by simpa [State.hold] using free
  rw [ownedHolds_eq, ownedHolds_eq, State.setHold, Vector.toList_set, List.countP_set (by simp), place]
  simp [ownedBy]

/-- A FREE entry that becomes ACTIVE for a port with less than four holds, over units that no ACTIVE hold shares (R130). -/
theorem keepsApart_setHold {s : State} {h : HoldId} {new : Hold} (free : s.hold h = none)
    (room : s.ownedHolds new.owner < Config.holdsPerPort)
    (clear : ∀ g hold, s.hold g = some hold → overlaps hold.first hold.span new.first new.span = false) :
    KeepsApart s (s.setHold h (some new)) := by
  refine ⟨fun inv => ?_⟩
  refine ⟨fun g k other first second foundG foundK => ?_, fun p => ?_⟩
  · rw [State.hold_setHold] at foundG foundK
    by_cases granted : h = g
    · rw [if_pos granted] at foundG
      rw [if_neg fun same => other (granted.symm.trans same)] at foundK
      cases foundG
      rw [overlaps_comm]
      exact clear k second foundK
    · rw [if_neg granted] at foundG
      by_cases behind : h = k
      · rw [if_pos behind] at foundK
        cases foundK
        exact clear g first foundG
      · rw [if_neg behind] at foundK
        exact inv.apart g k other first second foundG foundK
  · rw [ownedHolds_setHold free]
    split
    · next own => rw [← own]; exact room
    · exact inv.owned p

/-- A range without conflict shares no unit with an ACTIVE hold (R130). -/
theorem overlaps_of_no_conflict {s : State} {p : PortId} {first : UnitAddr} {span : Nat}
    (clear : s.holdConflicts p first span = false) {g : HoldId} {hold : Hold} (found : s.hold g = some hold) :
    overlaps hold.first hold.span first span = false := by
  have apart := (Bool.or_eq_false_iff.1 clear).1
  rw [holds_toList, List.any_map, List.any_eq_false] at apart
  have entry := apart g (List.mem_finRange g)
  rw [Function.comp_apply, found] at entry
  exact Bool.eq_false_iff.2 entry

/-- Each HOLD_OPEN that its checks refuse leaves the hold table, and the grant behind them meets R130 (R128 to R131). -/
theorem keepsApart_judgeHold (s : State) (p : PortId) (header : Header) (copy : SlotCopy) :
    KeepsApart s (s.judgeHold p header copy) := by
  have refused : ∀ status code unit, KeepsApart s (s.refuseHold p header copy status code unit) :=
    fun _ _ _ => keepsApart_of_holds (by simp [State.refuseHold])
  unfold State.judgeHold
  dsimp only
  refine keepsApart_ite (refused ..) (keepsApart_ite (refused ..) (keepsApart_ite (refused ..) ?_))
  split
  · exact refused ..
  · next room =>
    split
    · exact refused ..
    · next clear =>
      split
      · next h found =>
        have lowest : (s.hold h).isNone = true := List.find?_some (p := fun h => (s.hold h).isNone) found
        have free : s.hold h = none := Option.isNone_iff_eq_none.1 lowest
        have few : s.ownedHolds p < Config.holdsPerPort := by
          rw [State.holdsExhausted, decide_eq_true_eq] at room
          exact Nat.not_le.1 fun full => room (.inr full)
        exact (keepsApart_setHold free few fun _ _ stood =>
          overlaps_of_no_conflict (Bool.eq_false_iff.2 clear) stood).holding (holds_answer ..)
      · exact refused ..

theorem keepsApart_takeHoldOpen (s : State) (p : PortId) (header : Header) : KeepsApart s (s.takeHoldOpen p header) := by
  unfold State.takeHoldOpen
  split
  · exact keepsApart_of_holds (by simp)
  · exact keepsApart_ite (keepsApart_of_holds (by simp)) (keepsApart_judgeHold ..)

theorem keepsApart_takeHoldRelease (s : State) (p : PortId) (header : Header) :
    KeepsApart s (s.takeHoldRelease p header) :=
  keepsApart_ite ((keepsApart_endHold ..).holding (holds_answer ..)) (keepsApart_of_holds (by simp))

/-! ### Takings -/

theorem keepsApart_takeKind (s : State) (p : PortId) (header : Header) (body : List Byte) :
    KeepsApart s (s.takeKind p header body) := by
  unfold State.takeKind
  cases header.kind
  case holdOpen => exact keepsApart_takeHoldOpen ..
  case holdRelease => exact keepsApart_takeHoldRelease ..
  all_goals exact keepsApart_of_holds (by simp [State.takeUnbind, State.takeQuery])

theorem keepsApart_takeRequest (s : State) (p : PortId) (body : List Byte) : KeepsApart s (s.takeRequest p body) := by
  unfold State.takeRequest
  dsimp only
  refine keepsApart_ite (keepsApart_of_holds (by simp [State.discardReused])) ?_
  split
  · exact keepsApart_of_holds (holds_answer ..)
  · exact keepsApart_ite (keepsApart_takeKind ..) (keepsApart_of_holds (by simp [State.badRequest]))

theorem keepsApart_takeHead (s : State) (p : PortId) : KeepsApart s (s.takeHead p) := by
  unfold State.takeHead
  split
  · exact .refl s
  · exact keepsApart_ite (keepsApart_of_holds (by simp [State.takeShort])) (keepsApart_takeRequest ..)

/-! ### Teardowns and drains -/

/-- A teardown ends the holds of its port and no other (R20). -/
theorem keepsApart_teardownCore (s : State) (p : PortId) (cause : Teardown) : KeepsApart s (s.teardownCore p cause) :=
  keepsApart_of_ended (torn_teardownCore s p cause).hold

theorem keepsApart_completeDrain (s : State) : KeepsApart s s.completeDrain := by
  unfold State.completeDrain
  split
  · exact keepsApart_of_holds (holds_enterReady _)
  · have quiescent : KeepsApart s (s.setDevice .quiescent) := keepsApart_of_holds rfl
    exact quiescent.trans (keepsApart_foldl (fun _ _ => keepsApart_teardownCore ..) allPorts _)
  · exact .refl s

theorem keepsApart_drainTest (s : State) : KeepsApart s s.drainTest := keepsApart_ite (keepsApart_completeDrain s) (.refl s)

theorem keepsApart_drainEvent (s : State) : KeepsApart s s.drainEvent :=
  keepsApart_ite ((keepsApart_completeDrain s).holding (holds_finishParity _)) (.refl s)

theorem keepsApart_teardown (s : State) (p : PortId) (cause : Teardown) : KeepsApart s (s.teardown p cause) :=
  (keepsApart_teardownCore ..).trans (keepsApart_drainTest _)

/-- Entry to DRAINING breaks every hold (R12). -/
theorem keepsApart_enterDraining (s : State) (reason : Drain) : KeepsApart s (s.enterDraining reason) := by
  have drained : KeepsApart s (s.drained reason) :=
    keepsApart_of_ended (which := fun _ => true) fun h => by rw [hold_drained]; rfl
  exact drained.trans (keepsApart_drainTest _)

/-! ### The tick -/

theorem keepsApart_tickLink (s : State) (p : PortId) : KeepsApart s (s.tickLink p) := by
  unfold State.tickLink
  dsimp only
  split
  case h_3 =>
    have linked : ∀ f, KeepsApart s (s.modLink p f) := fun _ => keepsApart_of_holds rfl
    exact keepsApart_ite (keepsApart_ite (linked _) ((linked _).trans (keepsApart_teardown ..))) (linked _)
  all_goals exact keepsApart_of_holds (by simp)

theorem holds_setDecisions (s : State) (due : Bool) : (s.setDecisions due).holds = s.holds := rfl

theorem keepsApart_takeTick (s : State) : KeepsApart s s.takeTick := by
  have timed : KeepsApart s s.timed := ((keepsApart_counted s).trans (keepsApart_endHolds ..)).holding (State.mapBanks_holds ..)
  have linked : KeepsApart s (allPorts.foldl State.tickLink s.timed).tickCalibration :=
    (timed.trans (keepsApart_foldl keepsApart_tickLink allPorts _)).holding (by simp [State.tickCalibration])
  have ticked : KeepsApart s s.ticked := linked.holding (holds_finishParity _)
  rw [takeTick_eq]
  exact ticked.holding (holds_setDecisions ..)

/-! ### Due events and settling -/

theorem keepsApart_runDue (s : State) (due : Due) : KeepsApart s (s.runDue due) := by
  cases due with
  | attempt p =>
    have attempted : KeepsApart s (s.reattempt p) := keepsApart_of_holds (by simp [State.reattempt])
    exact attempted.trans (keepsApart_drainEvent _)
  | take p => exact (keepsApart_takeHead ..).trans (keepsApart_drainEvent _)
  | drain => exact keepsApart_drainEvent s
  | tick => exact keepsApart_takeTick s
  | decide b => exact keepsApart_of_holds rfl

theorem keepsApart_settleWhile (go : State → Due → Bool) (fuel : Nat) (s : State) : KeepsApart s (settleWhile go fuel s) :=
  settleWhile_induction (P := KeepsApart s) (fun _ _ _ k => k.trans (keepsApart_runDue ..)) go fuel s (.refl s)

theorem keepsApart_settle (s : State) : KeepsApart s s.settle := keepsApart_settleWhile ..

theorem keepsApart_prompted (s : State) (which : State → Due → Bool) : KeepsApart s (s.prompted which) :=
  prompted_induction (P := KeepsApart s) (fun _ _ _ k => k.trans (keepsApart_runDue ..)) which s (.refl s)

theorem holds_fallDue (s : State) : s.fallDue.holds = s.holds := by simp [State.fallDue]

theorem keepsApart_tickEvent (s : State) : KeepsApart s s.tickEvent := by
  have due : KeepsApart s s.settleTick.fallDue := (keepsApart_settleWhile ..).holding (holds_fallDue _)
  exact keepsApart_ite (due.trans (keepsApart_takeTick _)) due

theorem keepsApart_tickWhen (s : State) (condition : State → Bool) : KeepsApart s (s.tickWhen condition) := by
  have before : KeepsApart s s.settleTick := keepsApart_settleWhile ..
  exact keepsApart_ite ((before.holding (holds_fallDue _)).trans (keepsApart_takeTick _)) before

/-! ### Refreshes and links that are torn down -/

theorem keepsApart_completeRefresh (s : State) (b : BankId) : KeepsApart s (s.completeRefresh b) :=
  (keepsApart_of_holds (s := s) (State.modBank_holds ..)).trans (keepsApart_drainTest _)

theorem keepsApart_hostResetPort (s : State) (p : PortId) : KeepsApart s (s.hostResetPort p) :=
  ((keepsApart_teardown s p .hostReset).holding (by simp)).holding (holds_finishParity _)

theorem keepsApart_freshRequest (s : State) (p : PortId) : KeepsApart s (s.freshRequest p) := by
  unfold State.freshRequest
  cases (s.link p).state
  case training => exact keepsApart_of_holds (holds_acceptFreshRequest ..)
  case active | retrain => exact keepsApart_hostResetPort ..
  case down | failed => exact .refl s

end Sys2Proof.Machine
end

section
/-! The management commands and every other command keep the ranges of ACTIVE holds apart and no port with more than four; the
tier 3 statement (R127, R130). -/

namespace Sys2Proof.Machine

/-! ### Management commands -/

/-- A retirement breaks the holds of its aperture and no other (R78). -/
theorem keepsApart_doRetire (s : State) (block : List Byte) : KeepsApart s (s.doRetire block).1 := by
  cases argument : indexArgument block with
  | none => rw [State.doRetire, argument]; exact .refl s
  | some i =>
    by_cases bad : (s.entry i).parityBad = true
    · rw [State.doRetire, argument]
      dsimp only
      rw [if_pos bad]
      exact keepsApart_of_holds (holds_parityFail ..)
    · have good := Bool.eq_false_iff.2 bad
      by_cases live : (s.entry i).state = .live
      · rw [doRetire_of_live argument good live]
        dsimp only
        exact keepsApart_of_ended (which := fun h => (s.hold h).any (retiredHold s i)) (hold_retired s i)
      · rw [doRetire_of_not_live argument good live]
        exact .refl s

theorem keepsApart_doPortConfig (s : State) (source : Source) (block : List Byte) :
    KeepsApart s (s.doPortConfig source block).1 := by
  have withdrawn : ∀ p new, KeepsApart s (s.withdraw p new) := fun _ _ =>
    keepsApart_ite (keepsApart_teardown ..) (keepsApart_of_holds (by simp))
  have configured : ∀ p new, KeepsApart s (s.configure p new) := fun p new =>
    (withdrawn p new).holding (by simp [State.configure])
  unfold State.doPortConfig
  split
  · exact .refl s
  · split
    · exact .refl s
    · exact configured ..

theorem keepsApart_doPortReset (s : State) (source : Source) (block : List Byte) :
    KeepsApart s (s.doPortReset source block).1 := by
  have reset : ∀ p, KeepsApart s (s.resetOfPort p) := fun p =>
    (keepsApart_teardown s p .portReset).holding (by simp [State.resetOfPort])
  unfold State.doPortReset
  split
  · exact .refl s
  · split
    · exact .refl s
    · exact reset _

theorem keepsApart_doProfileCommit (s : State) : KeepsApart s s.doProfileCommit.1 := by
  unfold State.doProfileCommit State.commit
  split
  · exact .refl s
  · dsimp only
    split
    case h_4 => exact keepsApart_enterDraining ..
    all_goals exact keepsApart_of_holds rfl

/-- Step 1 of DATAPATH_RESET tears every port down; the steps behind it leave the hold table (R24). -/
theorem keepsApart_doDatapathReset (s : State) : KeepsApart s s.doDatapathReset.1 := by
  have torn : KeepsApart s s.resetTorn := keepsApart_foldl (fun _ _ => keepsApart_teardownCore ..) allPorts s
  have freed : s.resetFreed.holds = s.resetTorn.holds := by
    unfold State.resetFreed
    exact holds_foldl holds_forceFree s.resetTorn.retiringIndices s.resetTorn
  rw [doDatapathReset_eq]
  exact torn.holding ((trained_settleDrain _).holds.trans freed)

theorem keepsApart_doQuiesce (s : State) : KeepsApart s s.doQuiesce.1 := by
  unfold State.doQuiesce
  dsimp only
  exact keepsApart_enterDraining ..

theorem keepsApart_doHoldBreak (s : State) (block : List Byte) : KeepsApart s (s.doHoldBreak block).1 := by
  unfold State.doHoldBreak
  split
  · exact keepsApart_endHold ..
  · exact .refl s

/-- The effect of a permitted command: those that end holds, and those that leave the hold table (R170). -/
theorem keepsApart_commandEffect (s : State) (source : Source) (block : List Byte) (command : Command) :
    KeepsApart s (s.commandEffect source block command).1 := by
  cases command with
  | regRead => exact keepsApart_of_holds (holds_doRegRead ..)
  | regWrite => exact keepsApart_of_holds (holds_doRegWrite ..)
  | apertureCreate => exact keepsApart_of_holds (holds_doCreate ..)
  | apertureModify => exact keepsApart_of_holds (holds_doModify ..)
  | apertureRetire => exact keepsApart_doRetire ..
  | apertureRead => exact keepsApart_of_holds (holds_doRead ..)
  | portConfig => exact keepsApart_doPortConfig ..
  | portReset => exact keepsApart_doPortReset ..
  | logPop => exact keepsApart_of_holds (holds_doLogPop s)
  | logPeek => exact keepsApart_of_holds (holds_doLogPeek ..)
  | logClear => exact keepsApart_of_holds (holds_doLogClear s)
  | profileStage => exact keepsApart_of_holds (holds_doProfileStage ..)
  | profileCommit => exact keepsApart_doProfileCommit s
  | quiesce => exact keepsApart_doQuiesce s
  | resume => exact keepsApart_of_holds (holds_doResume s)
  | datapathReset => exact keepsApart_doDatapathReset s
  | holdBreak => exact keepsApart_doHoldBreak ..
  | injectEcc => exact keepsApart_of_holds (holds_doInjectEcc ..)
  | halt => exact keepsApart_of_holds (holds_doHalt ..)

theorem keepsApart_runBlock (s : State) (source : Source) (block : List Byte) :
    KeepsApart s (s.runBlock source block).1 := by
  unfold State.runBlock
  split
  · exact .refl s
  · split
    · exact keepsApart_commandEffect ..
    · exact .refl s

theorem keepsApart_execute (s : State) (command : QueuedCommand) : KeepsApart s (s.execute command) := by
  have run : KeepsApart s (s.popped.runBlock command.source command.block).1 :=
    (keepsApart_of_holds (s := s) (State.modMgmt_holds ..)).trans (keepsApart_runBlock ..)
  exact run.holding (holds_concluded ..)

theorem keepsApart_execution (s : State) (which : List Byte → Bool) : KeepsApart s (s.execution which) := by
  unfold State.execution
  dsimp only
  split
  · exact keepsApart_ite ((keepsApart_settle s).trans (keepsApart_execute ..)) (keepsApart_settle s)
  · exact keepsApart_settle s

theorem keepsApart_answerFence (s : State) (p : PortId) : KeepsApart s (s.answerFence p) := by
  have answered : ∀ tag, KeepsApart s (s.answerTag p tag) := by
    intro tag
    unfold State.answerTag
    split
    · split
      · exact keepsApart_of_holds (holds_completeEntry ..)
      · exact .refl s
    · split
      · exact keepsApart_ite (keepsApart_execute ..) (.refl s)
      · exact .refl s
  refine keepsApart_ite (keepsApart_of_holds (holds_fenceTest ..)) ?_
  split
  · exact answered _
  · exact .refl s

/-! ### Every command -/

/-- RESET_N asserted leaves no hold ACTIVE (R4). -/
theorem keepsApart_assertReset (s : State) : KeepsApart s s.assertReset :=
  keepsApart_of_ended (which := fun _ => true) fun h => by rw [hold_assertReset]; rfl

/-- Every command keeps the holds apart: most leave the hold table of the settled state. -/
theorem exec_keepsApart (i : Instr) (s : State) : ∃ t, exec i s = .next t ∧ KeepsApart s t := by
  have settled := keepsApart_settle s
  have still : ∀ {t : State}, t.holds = s.settle.holds → KeepsApart s t := settled.holding
  cases i
  case resetNAssert => exact ⟨_, rfl, keepsApart_assertReset s⟩
  case resetNRelease => exact ⟨_, rfl, keepsApart_of_holds (by simp)⟩
  case tick => exact ⟨_, rfl, keepsApart_tickEvent s⟩
  case calibrationEnd | refreshObligation | holdExpiry | ackTimeout | trainingTimeout => exact ⟨_, rfl, keepsApart_tickWhen ..⟩
  case memoryDisturbance | tableDisturbance | malformedParcel | receiveData | receiveAck | receiveNak | receiveRetrainReq |
      receiveTrainAck | sendTrainAck | sendTrainReq | sendNak | sendRetransmit | sendNewData | sendAck | readService |
      writeService | writeMaskedService | atomicService | clearingService | spiStatus | spiResult | spiBadOpcode =>
    exact ⟨_, rfl, still (by simp [State.drive, State.spiStatusEvent])⟩
  case receiveTrainReq | hostReset => exact ⟨_, rfl, settled.trans (keepsApart_freshRequest ..)⟩
  case shortRequest | read | write | writeMasked | atomic | bind | unbind | querySlot | holdOpen | holdRelease | fence |
      mgmt | invalidRequestKind | admissionReattempt | bankDecision | drainComplete => exact ⟨_, rfl, keepsApart_prompted ..⟩
  case fenceAnswer => exact ⟨_, rfl, settled.trans (keepsApart_answerFence ..)⟩
  case refreshComplete =>
    exact ⟨_, rfl, keepsApart_ite ((settled.trans (keepsApart_completeRefresh ..)).holding (holds_finishParity _)) settled⟩
  case spiSubmit =>
    have submitted : KeepsApart s s.settleSubmit := keepsApart_settleWhile ..
    exact ⟨_, rfl, submitted.holding (by simp [State.drive])⟩
  all_goals exact ⟨_, rfl, keepsApart_execution ..⟩

/-- Settles O58: an idle step leaves the state, another runs a command. -/
theorem stepKeepsHoldsApart : Obligations.StepKeepsHoldsApart := by
  intro s t apart run
  cases queue : s.pending with
  | nil =>
    rw [step_of_pending_nil queue] at run
    cases run
    exact apart
  | cons i rest =>
    rw [step_of_pending_cons queue] at run
    obtain ⟨after, e, kept⟩ := exec_keepsApart i { s with pending := rest }
    cases e.symm.trans run
    have taken : KeepsApart s { s with pending := rest } := keepsApart_of_holds rfl
    exact (taken.trans kept).apart apart

end Sys2Proof.Machine
end

section
/-! HOLD_BREAK and INJECT_ECC (R134, R138, R175, R179). -/

namespace Sys2Proof.Machine

/-! ### HOLD_BREAK -/

/-- The id of an ACTIVE hold names it (R138). -/
theorem holdArgument_of_active {s : State} {block : List Byte} {h : HoldId} (named : h.val = (block.getD 4 0).toNat)
    (active : s.hold h ≠ none) : s.holdArgument block = some h := by
  refine find_allHolds ?_ fun g before => ?_
  · exact Bool.and_eq_true_iff.2 ⟨decide_eq_true named, Option.isSome_iff_ne_none.2 active⟩
  · have other : g.val ≠ (byteAt block 4).toNat := fun same => Nat.ne_of_lt before (same.trans named.symm)
    rw [decide_eq_false other, Bool.false_and]

/-- An id that no ACTIVE hold has names none (R138). -/
theorem holdArgument_of_free {s : State} {block : List Byte}
    (free : ∀ h : HoldId, h.val = (block.getD 4 0).toNat → s.hold h = none) : s.holdArgument block = none := by
  refine List.find?_eq_none.2 fun h _ met => ?_
  obtain ⟨named, active⟩ := Bool.and_eq_true_iff.1 met
  exact Option.isSome_iff_ne_none.1 active (free h (of_decide_eq_true named))

/-- No entry is parked on a hold that has ended, whatever its end (R134, step 3). -/
theorem unparked_endHold {s : State} {h : HoldId} {hold : Hold} (found : s.hold h = some hold) (cause : HoldEnd) (b : BankId) :
    ∀ entry ∈ ((s.endHold h cause).bank b).queue, entry.parkedOn ≠ some h := by
  have ended : s.endHold h cause = ((s.setHold h none).reportHoldEnd h hold cause).retest h := by
    simp only [State.endHold, found]
  have free : ((s.setHold h none).reportHoldEnd h hold cause).hold h = none :=
    ((reports_reportHoldEnd ..).hold h).trans (State.hold_setHold_same ..)
  rw [ended, State.retest, State.bank_mapBanks, retestBank_queue]
  intro entry mem
  obtain ⟨before, -, rfl⟩ := List.mem_map.1 mem
  exact retestEntry_parkedOn free before

section
variable {s : State} {command : QueuedCommand} (executes : s.Executes command .holdBreak)
include executes

/-- HOLD_BREAK of an id that no ACTIVE hold has (R138). -/
theorem exec_holdBreak_of_free (free : ∀ h : HoldId, h.val = (command.block.getD 4 0).toNat → s.hold h = none) :
    exec .holdBreak s = .next (s.popped.concluded command (.rejected .noHold)) := by
  have effect : s.popped.doHoldBreak command.block = (s.popped, .rejected .noHold) := by
    rw [State.doHoldBreak, holdArgument_of_free (s := s.popped) free]
  exact exec_of_executes rfl executes effect

/-- HOLD_BREAK of an ACTIVE hold (R138). -/
theorem exec_holdBreak_of_active {h : HoldId} (named : h.val = (command.block.getD 4 0).toNat) (active : s.hold h ≠ none) :
    exec .holdBreak s = .next ((s.popped.endHold h (.broken .management)).concluded command (.ok [])) := by
  have effect : s.popped.doHoldBreak command.block = (s.popped.endHold h (.broken .management), .ok []) := by
    rw [State.doHoldBreak, holdArgument_of_active (s := s.popped) named active]
  exact exec_of_executes rfl executes effect

end

/-- The end of a hold tells its owner alone (R134, R137). -/
theorem raised_endHold {s : State} {h : HoldId} {hold : Hold} (found : s.hold h = some hold) (reason : BreakReason) :
    Raised s (s.endHold h (.broken reason)) fun p => if hold.owner = p then [.holdBroken h reason] else [] := by
  refine raised_of_told fun room => ?_
  have own := room hold.owner
  rw [if_pos rfl] at own
  exact (told_endHold found reason own).congr fun p => by simp only [eq_comm]

/-! ### INJECT_ECC -/

/-- The arm that the argument bytes carry, by the kind and the unit (R175). -/
theorem armArgument_eq (block : List Byte) : armArgument block =
    if (block.getD 8 0).toNat = 0 then some none
    else if 2 < (block.getD 8 0).toNat ∨ 0x3FFFFF < numberAt block 4 4 then none
    else some (some (BitVec.ofNat 22 (numberAt block 4 4),
      if (block.getD 8 0).toNat = 1 then .correctable else .uncorrectable)) := by
  have two : ∀ kind : Byte, kind = 2 ↔ kind.toNat = 2 := fun _ => (BitVec.toNat_inj (y := 2)).symm
  simp only [armArgument, byteAt, toNat_eq_zero_iff, toNat_eq_one_iff, two]
  generalize (block.getD 8 0).toNat = kind, numberAt block 4 4 = unit
  obtain rfl | rfl | rfl | beyond : kind = 0 ∨ kind = 1 ∨ kind = 2 ∨ 2 < kind := by omega
  · rfl
  · by_cases within : unit ≤ 0x3FFFFF <;> simp [within, ← Nat.not_le]
  · by_cases within : unit ≤ 0x3FFFFF <;> simp [within, ← Nat.not_le]
  · rw [if_neg (by omega), if_neg (by omega), if_neg (by omega), if_neg (by omega), if_pos (.inl beyond)]

/-- Settles O52: the hold that the block names, and the arm that it carries. -/
theorem holdBreakAndInjectEcc : Obligations.HoldBreakAndInjectEcc := by
  refine fun s command => ⟨fun executes h named => ⟨fun free => ?_, fun active => ?_⟩, fun executes beyond => ?_,
    fun executes => ?_⟩
  · exact exec_holdBreak_of_free executes fun g same => (Fin.ext (same.trans named.symm) : g = h) ▸ free
  · obtain ⟨hold, found⟩ := Option.ne_none_iff_exists'.1 active
    have calm := calm_endHold s.popped h (.broken .management)
    refine ⟨_, exec_holdBreak_of_active executes named active, ?_, fun other same => ?_, fun g other => ?_,
      unparked_endHold (s := s.popped) found _, (tables_endHold s.popped h _).apertures, calm.memory, calm.health⟩
    · rw [hold_endHold, if_pos rfl]
    · exact raised_of_popped (raised_endHold (s := s.popped) same .management)
    · rw [hold_endHold, if_neg other]
      rfl
  · exact exec_holdBreak_of_free executes fun h named => absurd (named ▸ beyond) (Nat.not_lt.2 (Nat.le_of_lt_succ h.isLt))
  · have row : ∀ {t outcome}, s.popped.doInjectEcc command.block = (t, outcome) →
        exec .injectEcc s = .next (t.concluded command outcome) := exec_of_executes rfl executes
    dsimp only
    split
    · next none =>
      exact row (by rw [State.doInjectEcc, armArgument_eq, if_pos none])
    · next kind =>
      split
      · next bad => exact row (by rw [State.doInjectEcc, armArgument_eq, if_neg kind, if_pos bad])
      · next good => exact row (by rw [State.doInjectEcc, armArgument_eq, if_neg kind, if_neg good])

end Sys2Proof.Machine
end

section
/-! What a tick leaves of the ticks due and of the hold table, and the statement on a tick that takes effect (R134, R136, R142 to
R145). -/

namespace Sys2Proof.Machine

/-! ### What follows the holds in a tick grants none -/

/-- No tick falls due or takes effect, and no FREE hold becomes ACTIVE. -/
structure Subsides (s t : State) : Prop where
  ticks : t.ticksDue.length = s.ticksDue.length
  free : ∀ h, s.hold h = none → t.hold h = none

theorem Subsides.refl (s : State) : Subsides s s := ⟨rfl, fun _ => id⟩

theorem Subsides.trans {a b c : State} (h : Subsides a b) (k : Subsides b c) : Subsides a c :=
  ⟨k.ticks.trans h.ticks, fun i => k.free i ∘ h.free i⟩

/-- Where no tick was due, none is. -/
theorem Subsides.ticksDue {s t : State} (h : Subsides s t) (none : s.ticksDue = []) : t.ticksDue = [] :=
  List.length_eq_zero_iff.1 (by rw [h.ticks, none, List.length_nil])

theorem subsides_ite {c : Prop} [Decidable c] {s a b : State} (h : Subsides s a) (k : Subsides s b) :
    Subsides s (if c then a else b) := by
  split
  · exact h
  · exact k

theorem subsides_foldl {α : Type} {f : State → α → State} (h : ∀ s a, Subsides s (f s a)) (list : List α) (s : State) :
    Subsides s (list.foldl f s) :=
  List.foldlRecOn (motive := Subsides s) _ _ (.refl s) fun _ k _ _ => k.trans (h _ _)

/-- What leaves the ticks due and the hold table. -/
theorem subsides_of_parts {s t : State} (ticks : t.ticksDue = s.ticksDue) (holds : t.holds = s.holds) : Subsides s t :=
  ⟨by rw [ticks], fun h => by unfold State.hold; rw [holds]; exact id⟩

theorem Reports.subsides {s t : State} (h : Reports s t) : Subsides s t := subsides_of_parts h.ticksDue h.holds

/-- A change of a link may release the ticks due, which stay due (R142). -/
theorem subsides_modLink (s : State) (p : PortId) (f : Link → Link) : Subsides s (s.modLink p f) := by
  refine ⟨?_, fun _ => id⟩
  rw [State.modLink]
  dsimp only
  split
  · rfl
  · exact List.length_map ..

theorem subsides_modPort (s : State) (p : PortId) (f : Port → Port) : Subsides s (s.modPort p f) := subsides_of_parts rfl rfl
theorem subsides_mapBanks (s : State) (f : Bank → Bank) : Subsides s (s.mapBanks f) := subsides_of_parts rfl rfl
theorem subsides_modEntry (s : State) (i : ApIndex) (f : ApEntry → ApEntry) : Subsides s (s.modEntry i f) :=
  subsides_of_parts rfl rfl
theorem subsides_modMgmt (s : State) (f : Mgmt → Mgmt) : Subsides s (s.modMgmt f) := subsides_of_parts rfl rfl
theorem subsides_setDevice (s : State) (d : DevState) : Subsides s (s.setDevice d) := subsides_of_parts rfl rfl
theorem subsides_promptAttempts (s : State) : Subsides s s.promptAttempts := subsides_of_parts rfl rfl

theorem subsides_setSlot (s : State) (p : PortId) (k : SlotId) (new : Slot) : Subsides s (s.setSlot p k new) := by
  obtain ⟨table, e⟩ := setSlot_eq s p k new
  rw [e]
  exact subsides_of_parts rfl rfl

theorem subsides_endHold (s : State) (h : HoldId) (cause : HoldEnd) : Subsides s (s.endHold h cause) where
  ticks := by
    unfold State.endHold
    split
    · rfl
    · next hold _ => exact congrArg List.length (reports_reportHoldEnd (s.setHold h none) h hold cause).ticksDue
  free g free := by rw [hold_endHold, free, ite_self]

theorem subsides_endHolds (s : State) (cause : HoldEnd) (which : Hold → Bool) : Subsides s (s.endHolds cause which) :=
  subsides_foldl (fun _ _ => subsides_ite (subsides_endHold ..) (.refl _)) _ _

/-! ### Links, entry to READY and HALTED, and teardown -/

theorem subsides_replayDue (s : State) (p : PortId) : Subsides s (s.replayDue p) :=
  subsides_ite (subsides_modLink ..) ((subsides_modLink ..).trans (reports_offer ..).subsides)

theorem subsides_trainEnabled (s : State) : Subsides s s.trainEnabled :=
  subsides_foldl (fun _ _ => subsides_ite (subsides_modLink ..) (.refl _)) _ _

theorem subsides_enterReady (s : State) : Subsides s s.enterReady :=
  ((subsides_setDevice ..).trans (subsides_trainEnabled _)).trans (reports_raiseDeviceState ..).subsides

theorem subsides_enterHalted (s : State) (cause : Offer) : Subsides s (s.enterHalted cause) :=
  (((subsides_setDevice ..).trans (reports_offer ..).subsides).trans (subsides_trainEnabled _)).trans
    (reports_raiseDeviceState ..).subsides

theorem subsides_finishParity (s : State) : Subsides s s.finishParity :=
  Subsides.trans (b := { s with parityPending := [] }) (subsides_of_parts rfl rfl)
    (subsides_foldl (fun _ _ => subsides_ite (reports_offer ..).subsides (subsides_enterHalted ..)) _ _)

theorem subsides_lookupDrained (s : State) (i : ApIndex) : Subsides s (s.lookupDrained State.parityDefer i) :=
  subsides_ite (subsides_ite (reports_offer ..).subsides (subsides_of_parts rfl rfl))
    (subsides_ite ((subsides_modEntry ..).trans (reports_raiseFreed ..).subsides) (.refl _))

theorem subsides_dropEntries (list : List Entry) (s : State) : Subsides s (s.dropEntries list).1 := by
  obtain ⟨table, e⟩ := dropEntries_eq list s
  rw [e]
  exact subsides_of_parts rfl rfl

theorem subsides_teardownQueues (s : State) (p : PortId) (cause : Teardown) : Subsides s (s.teardownQueues p cause).1 := by
  have emptied : Subsides s (s.emptied p cause) :=
    ((((subsides_modLink ..).trans (subsides_mapBanks ..)).trans (subsides_dropEntries ..)).trans
      (subsides_modPort ..)).trans (subsides_modLink ..)
  rw [teardownQueues_fst]
  exact subsides_ite emptied (emptied.trans (subsides_promptAttempts _))

theorem subsides_teardownCore (s : State) (p : PortId) (cause : Teardown) : Subsides s (s.teardownCore p cause) :=
  (((((subsides_teardownQueues s p cause).trans (subsides_foldl (fun _ _ => subsides_setSlot ..) _ _)).trans
    (subsides_endHolds ..)).trans (subsides_modMgmt ..)).trans (reports_teardownRecord ..).subsides).trans
      (subsides_foldl subsides_lookupDrained _ _)

theorem subsides_completeDrain (s : State) : Subsides s s.completeDrain := by
  unfold State.completeDrain
  split
  · next next _ =>
    exact Subsides.trans (b := { s with active := next }) (subsides_of_parts rfl rfl) (subsides_enterReady _)
  · exact (subsides_setDevice ..).trans (subsides_foldl (fun _ _ => subsides_teardownCore ..) _ _)
  · exact .refl _

theorem subsides_drainTest (s : State) : Subsides s s.drainTest := subsides_ite (subsides_completeDrain s) (.refl _)

theorem subsides_teardown (s : State) (p : PortId) (cause : Teardown) : Subsides s (s.teardown p cause) :=
  (subsides_teardownCore ..).trans (subsides_drainTest _)

theorem subsides_tickLink (s : State) (p : PortId) : Subsides s (s.tickLink p) := by
  have link : ∀ f, Subsides s (s.modLink p f) := fun _ => subsides_modLink ..
  unfold State.tickLink
  dsimp only
  split
  case h_1 => exact subsides_ite (.refl _) (subsides_ite ((link _).trans (subsides_replayDue ..)) (link _))
  case h_2 => exact subsides_ite (link _) (link _)
  case h_3 => exact subsides_ite (subsides_ite (link _) ((link _).trans (subsides_teardown ..))) (link _)
  all_goals exact .refl _

theorem subsides_tickCalibration (s : State) : Subsides s s.tickCalibration := subsides_ite (subsides_setDevice ..) (.refl _)

theorem subsides_setDecisions (s : State) (due : Bool) : Subsides s (s.setDecisions due) := subsides_of_parts rfl rfl

/-! ### The ticks due and the holds after a tick -/

/-- After the count and the holds, a tick grants no hold and takes no other tick (R143). -/
theorem subsides_takeTick (s : State) : Subsides s.timed s.takeTick := by
  have linked : Subsides s.timed (allPorts.foldl State.tickLink s.timed) := subsides_foldl subsides_tickLink ..
  have ticked : Subsides s.timed s.ticked := (linked.trans (subsides_tickCalibration _)).trans (subsides_finishParity _)
  rw [takeTick_eq]
  exact ticked.trans (subsides_setDecisions ..)

/-- A tick takes the oldest tick due and no other (R142, R143). -/
theorem ticksDue_takeTick {s : State} {waits : BitVec 4} (one : s.ticksDue = [waits]) : s.takeTick.ticksDue = [] := by
  have counted : s.counted.ticksDue = [] := by rw [State.counted, one, List.tail_cons]
  have timed : Subsides s.counted s.timed := (subsides_endHolds ..).trans (subsides_mapBanks ..)
  exact (timed.trans (subsides_takeTick s)).ticksDue counted

theorem hold_counted (s : State) (h : HoldId) : s.counted.hold h = countHold (s.hold h) := by
  simp [State.hold, State.counted]

/-- A hold after the holds have had their part of a tick: it has counted down, and one that reaches 0 is FREE (R136). -/
theorem hold_timed (s : State) (h : HoldId) : s.timed.hold h =
    if (countHold (s.hold h)).any (fun hold => decide (hold.remaining = 0)) then none else countHold (s.hold h) := by
  have ended := hold_endHolds s.counted .expiry (fun hold => decide (hold.remaining = 0)) h
  rw [hold_counted] at ended
  rw [← ended, State.timed, State.hold, State.mapBanks_holds]
  rfl

theorem hold_timed_of_free {s : State} {h : HoldId} (free : s.hold h = none) : s.timed.hold h = none := by
  rw [hold_timed, free, countHold, Option.map_none, ite_self]

theorem hold_timed_of_last {s : State} {h : HoldId} {hold : Hold} (found : s.hold h = some hold) (last : hold.remaining ≤ 1) :
    s.timed.hold h = none := by
  have ends : hold.remaining - 1 = 0 := Nat.sub_eq_zero_of_le last
  rw [hold_timed, found]
  exact if_pos (decide_eq_true ends)

theorem hold_timed_of_more {s : State} {h : HoldId} {hold : Hold} (found : s.hold h = some hold) (more : 1 < hold.remaining) :
    s.timed.hold h = some { hold with remaining := hold.remaining - 1 } := by
  have goesOn : hold.remaining - 1 ≠ 0 := Nat.sub_ne_zero_of_lt more
  rw [hold_timed, found]
  exact if_neg (by simpa [countHold] using goesOn)

/-! ### Links that are not in RETRAIN leave the holds -/

/-- Nothing of the hold table and of the links changes but the link of port `p`. -/
structure OwnLink (p : PortId) (s t : State) : Prop where
  holds : t.holds = s.holds
  link : ∀ q, q ≠ p → t.link q = s.link q

theorem OwnLink.trans {p : PortId} {a b c : State} (h : OwnLink p a b) (k : OwnLink p b c) : OwnLink p a c :=
  ⟨k.holds.trans h.holds, fun q other => (k.link q other).trans (h.link q other)⟩

theorem ownLink_modLink (s : State) (p : PortId) (f : Link → Link) : OwnLink p s (s.modLink p f) :=
  ⟨rfl, fun _ other => State.link_modLink_other s f other.symm⟩

theorem ownLink_replayDue (s : State) (p : PortId) : OwnLink p s (s.replayDue p) := by
  have told := reports_offer (s.modLink p beginRetrain) { code := .retrainLocal, port := some p }
  unfold State.replayDue
  split
  · exact ownLink_modLink ..
  · exact (ownLink_modLink ..).trans ⟨told.holds, fun q _ => told.link q⟩

/-- The tick of a link tears its port down in RETRAIN alone, so in no other state does it go beyond its own link (R35, R45). -/
theorem ownLink_tickLink {s : State} {p : PortId} (still : (s.link p).state ≠ .retrain) : OwnLink p s (s.tickLink p) := by
  have link := ownLink_modLink s p
  have same : OwnLink p s s := ⟨rfl, fun _ _ => rfl⟩
  unfold State.tickLink
  dsimp only
  split
  · split
    · exact same
    · split
      · exact (link _).trans (ownLink_replayDue ..)
      · exact link _
  · split <;> exact link _
  · next retrain => exact absurd retrain still
  · exact same
  · exact same

/-- Where no link is in RETRAIN, the ticks of the links leave the holds: a link that enters RETRAIN has then had its tick. -/
theorem holds_tickLinks : ∀ (list : List PortId) (s : State), list.Nodup → (∀ p ∈ list, (s.link p).state ≠ .retrain) →
    (list.foldl State.tickLink s).holds = s.holds
  | [], _, _, _ => rfl
  | p :: rest, s, nodup, still => by
    obtain ⟨fresh, nodup⟩ := List.nodup_cons.1 nodup
    have own := ownLink_tickLink (still p List.mem_cons_self)
    have after : ∀ q ∈ rest, ((s.tickLink p).link q).state ≠ .retrain := fun q mem => by
      rw [own.link q (ne_of_mem_of_not_mem mem fresh)]
      exact still q (List.mem_cons_of_mem p mem)
    rw [List.foldl_cons, holds_tickLinks rest _ nodup after, own.holds]

/-- Where no link is in RETRAIN, no hold ends after the holds have had their part of a tick. -/
theorem hold_takeTick_of_no_retrain {s : State} (still : ∀ p, (s.link p).state ≠ .retrain) (h : HoldId) :
    s.takeTick.hold h = s.timed.hold h := by
  have linked := holds_tickLinks allPorts s.timed (by decide) fun p _ => by rw [(steady_timed s).link]; exact still p
  rw [(trained_takeTick s).hold, State.hold, linked]
  rfl

/-! ### The banks after a tick -/

/-- A bank that has not ticked up to the interval counts one tick more (R145). -/
theorem tickBank_below_interval {interval : Nat} {bank : Bank} (below : ¬interval ≤ bank.sinceRefresh + 1) :
    tickBank interval bank = { bank with sinceRefresh := bank.sinceRefresh + 1 } := if_neg below

/-- The refresh counters of a bank whose refresh interval has not run (R145). -/
theorem takeTick_below_interval {s : State} {b : BankId} (below : ¬s.active.refreshInterval ≤ (s.bank b).sinceRefresh + 1) :
    (s.takeTick.bank b).sinceRefresh = (s.bank b).sinceRefresh + 1 ∧ (s.takeTick.bank b).owed = (s.bank b).owed ∧
      (s.takeTick.bank b).owedMax = (s.bank b).owedMax := by
  obtain ⟨bank, moved, kept⟩ := bank_takeTick s b
  rw [tickBank_below_interval (by rw [moved.sinceRefresh]; exact below)] at kept
  rw [← moved.sinceRefresh, ← moved.owed, ← moved.owedMax]
  exact ⟨kept.sinceRefresh, kept.owed, kept.owedMax⟩

/-- A tick falls due alone where none was due (R142). -/
theorem fallDue_alone {s : State} (h : s.TickFree) : ∃ waits, s.fallDue = { s with ticksDue := [waits] } := by
  obtain ⟨-, device, none, -, -⟩ := h
  exact ⟨s.ackOwedSet, by rw [State.fallDue, if_neg device, none, List.nil_append]⟩

/-- Settles O3: the count, the banks, and then each hold as its count leaves it; what follows the holds in the tick grants none,
and ends one only through a link in RETRAIN. -/
theorem tickTakesEffect : Obligations.TickTakesEffect := by
  intro s free
  obtain ⟨waits, falls⟩ := fallDue_alone free
  have run : exec .tick s = .next s.fallDue.takeTick := congrArg Host.Outcome.next (tickEvent_of_tickFree free)
  rw [falls] at run
  have calm := calm_takeTick { s with ticksDue := [waits] }
  have later := subsides_takeTick { s with ticksDue := [waits] }
  obtain ⟨-, -, -, idle, -⟩ := free
  refine ⟨_, run, calm.tickCount, ticksDue_takeTick rfl, calm.memory, calm.health, fun b => ?_, fun h none => ?_,
    fun h hold found last => ?_, fun still h hold found more => ?_⟩
  · split
    · next due =>
      obtain ⟨owed, since, most, -, -⟩ := takeTick_of_interval (s := { s with ticksDue := [waits] }) (b := b) due (idle b)
      exact ⟨since, owed, most⟩
    · next below => exact takeTick_below_interval (s := { s with ticksDue := [waits] }) below
  · exact later.free h (hold_timed_of_free (s := { s with ticksDue := [waits] }) none)
  · exact later.free h (hold_timed_of_last (s := { s with ticksDue := [waits] }) found last)
  · exact (hold_takeTick_of_no_retrain (s := { s with ticksDue := [waits] }) still h).trans
      (hold_timed_of_more (s := { s with ticksDue := [waits] }) found more)

end Sys2Proof.Machine
end

section
/-! Ticks that wait, and the completion of a refresh (R142, R146). -/

namespace Sys2Proof.Machine

/-! ### A tick that waits -/

/-- A settled state has no tick that can take effect (R1, R142). -/
theorem tickReady_of_settled {s : State} (settled : s.Settled) : s.tickReady = false := by
  refine Bool.eq_false_iff.2 fun ready => ?_
  revert settled
  rw [State.Settled, State.nextDue, ready]
  split
  · simp
  · split
    · simp
    · split <;> simp

/-- A tick that falls due takes effect at once or waits. -/
theorem tickEvent_of_settled {s : State} (settled : s.Settled) :
    s.tickEvent = if s.fallDue.tickReady then s.fallDue.takeTick else s.fallDue := by
  rw [State.tickEvent, settleTick_of_settled settled]

theorem fallDue_of_released {s : State} (device : s.device ≠ .reset) :
    s.fallDue = { s with ticksDue := s.ticksDue ++ [s.ackOwedSet] } := if_neg device

theorem fallDue_of_reset {s : State} (device : s.device = .reset) : s.fallDue = s := if_pos device

theorem banksIdle_eq_false {s : State} {b : BankId} (busy : (s.bank b).state ≠ .idle) : s.banksIdle = false := by
  by_contra idle
  have all := (all_banks s fun bank => decide (bank.state = .idle)).1 (by simpa [State.banksIdle] using idle)
  exact busy (of_decide_eq_true (all b))

/-- Bit p of the ports that a tick waits for is the ACK-owed flag of Pp (R142). -/
theorem getLsbD_ackOwedSet (s : State) (p : PortId) : s.ackOwedSet.getLsbD p.val = (s.link p).ackOwed := by
  have bits : ∀ (owed : PortId → Bool), (BitVec.ofNat 4 (allPorts.foldl (fun sum p => if owed p then sum + 2 ^ p.val else sum)
      0)).getLsbD p.val = owed p := by
    decide +revert
  exact bits fun p => (s.link p).ackOwed

theorem ackOwedSet_ne_zero {s : State} {p : PortId} (owed : (s.link p).ackOwed = true) : s.ackOwedSet ≠ 0 := by
  intro none
  have bit := getLsbD_ackOwedSet s p
  rw [none, owed] at bit
  simp at bit

/-- What a tick waits for when it falls due: a tick due before it, a bank that is not IDLE, or an ACK owed (R142). -/
theorem tickReady_fallDue_of_blocked {s : State} (settled : s.Settled) (device : s.device ≠ .reset)
    (blocked : s.ticksDue ≠ [] ∨ (∃ b, (s.bank b).state ≠ .idle) ∨ ∃ p, (s.link p).ackOwed = true) :
    s.fallDue.tickReady = false := by
  rw [fallDue_of_released device]
  cases due : s.ticksDue with
  | cons waits rest =>
    have ready := tickReady_of_settled settled
    rw [State.tickReady, due] at ready
    exact ready
  | nil =>
    rcases blocked with some | ⟨b, busy⟩ | ⟨p, owed⟩
    · exact absurd due some
    · have idle : State.banksIdle { s with ticksDue := [s.ackOwedSet] } = false := banksIdle_eq_false busy
      simp [State.tickReady, idle]
    · have waits : decide (s.ackOwedSet = 0) = false := decide_eq_false (ackOwedSet_ne_zero owed)
      simp only [State.tickReady, List.nil_append, waits, Bool.false_and]

/-- Settles O4: a settled state has no tick that can take effect, and what blocks the new
one keeps the head of the ticks due from being ready. -/
theorem tickWaitsOrIsHeld : Obligations.TickWaitsOrIsHeld := by
  refine ⟨fun s settled device blocked => ?_, getLsbD_ackOwedSet, fun s settled device => ?_⟩
  · refine congrArg Host.Outcome.next ?_
    rw [tickEvent_of_settled settled, tickReady_fallDue_of_blocked settled device blocked, if_neg Bool.false_ne_true,
      fallDue_of_released device]
  · refine congrArg Host.Outcome.next ?_
    rw [tickEvent_of_settled settled, fallDue_of_reset device, tickReady_of_settled settled, if_neg Bool.false_ne_true]

/-! ### The completion of a refresh -/

theorem drainTest_of_not_draining {s : State} (h : s.device.isDraining = false) : s.drainTest = s := by
  rw [State.drainTest, h, Bool.false_and, if_neg Bool.false_ne_true]

/-- Settles O38: outside DRAINING the drain completion test does nothing, and no lookup has failed. -/
theorem refreshPaysOneObligation : Obligations.RefreshPaysOneObligation := by
  intro s b settled parity steady refreshing
  have paid : s.completeRefresh b =
      s.modBank b fun bank => { bank with owed := bank.owed - 1, state := .idle, decisionDue := true } :=
    drainTest_of_not_draining (s := s.modBank b _) steady
  have none : (s.completeRefresh b).ParitySettled := by rw [paid]; exact parity
  rw [exec, execRefreshComplete, settle_of_settled settled, if_pos refreshing, finishParity_of_settled none, paid]

end Sys2Proof.Machine
end

section
/-! The attention flag is set exactly while its condition holds (R158): the attention test makes it so, whatever state it finds, and
an offer that no test follows leaves both as they are. The operations of the part report by offers and by events, which offer a
record where they are lost; but for these, only management commands and RESET_N change the event and fault unit. -/

namespace Sys2Proof.Machine

/-- The attention flag is set exactly while its condition holds (R158). This is `State.AttentionKept`, which as an abbreviation
would be unfolded through the operations wherever two states are unified. -/
def State.Attentive (s : State) : Prop := s.AttentionKept

/-! ### The attention test and the offer -/

/-- What leaves the event and fault unit leaves the flag and its condition. -/
theorem attentive_of_faults {s t : State} (kept : s.Attentive) (same : t.faults = s.faults) : t.Attentive := by
  rw [State.Attentive, State.AttentionKept, same]
  exact kept

theorem attentive_of_alerted {s : State} (standing : s.faults.alerted = true) : s.Attentive := by
  obtain ⟨condition, attention⟩ := Bool.and_eq_true_iff.1 standing
  exact attention.trans condition.symm

/-- The attention test sets the flag to its condition: the records of LOG_ATTENTION events that it loses do not end the
condition (R158, R161). -/
theorem attentive_attentionTest (s : State) : s.attentionTest.Attentive := by
  cases flag : s.faults.attention with
  | false =>
    cases holds : s.faults.condition with
    | false =>
      rw [attentionTest_of_same (holds.trans flag.symm)]
      exact flag.trans holds.symm
    | true =>
      rw [attentionTest_of_begin holds flag]
      have standing : ({ s.faults with attention := true } : FaultUnit).alerted = true := Bool.and_eq_true_iff.2 ⟨holds, rfl⟩
      exact attentive_of_alerted (raiseAttention_load standing 0).1
  | true =>
    cases holds : s.faults.condition with
    | false =>
      rw [attentionTest_of_end holds flag]
      exact holds.symm
    | true =>
      rw [attentionTest_of_same (holds.trans flag.symm)]
      exact flag.trans holds.symm

/-- A merge stores no code that the log did not hold (R155). -/
theorem condition_mergeNewest (u : FaultUnit) : ({ u with log := mergeNewest u.log } : FaultUnit).condition = u.condition := by
  have codes : ∀ log : List FaultRecord, (log.any fun record => inMask u.alertMask record.fault.code) =
      (log.map fun record => record.fault.code).any (inMask u.alertMask) := fun _ => by rw [List.any_map]; rfl
  simp only [FaultUnit.condition, FaultUnit.alertRecord, codes, mergeNewest_codes]

section
variable {s : State} (kept : s.Attentive)
include kept

/-! ### Updates of the state -/

theorem attentive_modPort (p : PortId) (f : Port → Port) : (s.modPort p f).Attentive := kept
theorem attentive_modLink (p : PortId) (f : Link → Link) : (s.modLink p f).Attentive := kept
theorem attentive_modBank (b : BankId) (f : Bank → Bank) : (s.modBank b f).Attentive := kept
theorem attentive_mapBanks (f : Bank → Bank) : (s.mapBanks f).Attentive := kept
theorem attentive_modEntry (i : ApIndex) (f : ApEntry → ApEntry) : (s.modEntry i f).Attentive := kept
theorem attentive_setHold (h : HoldId) (entry : Option Hold) : (s.setHold h entry).Attentive := kept
theorem attentive_setTag (p : PortId) (tag : Tag) (holder : Option Holder) : (s.setTag p tag holder).Attentive := kept
theorem attentive_modMgmt (f : Mgmt → Mgmt) : (s.modMgmt f).Attentive := kept
theorem attentive_setDevice (device : DevState) : (s.setDevice device).Attentive := kept
theorem attentive_popHead (p : PortId) : (s.popHead p).Attentive := kept
theorem attentive_promptAttempts : s.promptAttempts.Attentive := kept

/-! ### Offers and events -/

/-- A masked or merged record leaves the condition, a stored one and the first that is dropped bring the attention test, and a
further dropped one finds the overflow episode standing (R154 to R156, R158). -/
theorem attentive_offer (fault : Offer) : (s.offer fault).Attentive := by
  cases enabled : inMask s.faults.classMask fault.code with
  | false =>
    rw [offer_of_masked enabled]
    exact kept
  | true =>
    cases merges : mergeable s.faults s.tickCount fault with
    | true =>
      rw [offer_of_merge enabled merges]
      exact kept.trans (condition_mergeNewest s.faults).symm
    | false =>
      by_cases room : s.faults.log.length < 64
      · rw [offer_of_room enabled merges room]
        exact attentive_attentionTest _
      · rw [offer_of_full enabled merges (Nat.not_lt.1 room)]
        split
        · next episode =>
          have condition : s.faults.condition = true := by rw [FaultUnit.condition, episode, Bool.or_true]
          have ends : (s.modFaults fun u => { u with overflow := count16 u.overflow, episode := true }).faults.condition = true :=
            Bool.or_true _
          exact (kept.trans condition).trans ends.symm
        · exact attentive_attentionTest _

theorem attentive_raise (p : PortId) (event : Event) : (s.raise p event).Attentive := by
  by_cases dead : (s.link p).state ∈ [LinkState.down, .failed]
  · rw [raise_of_dead dead]
    exact kept
  · rw [raise_of_alive dead]
    split
    · exact kept
    · exact attentive_offer (attentive_modPort kept ..) _

end

theorem attentive_ite {c : Prop} [Decidable c] {a b : State} (h : a.Attentive) (k : b.Attentive) :
    (if c then a else b).Attentive := by
  split
  · exact h
  · exact k

theorem attentive_foldl {α : Type} {f : State → α → State} (h : ∀ s a, s.Attentive → (f s a).Attentive)
    (list : List α) {s : State} (kept : s.Attentive) : (list.foldl f s).Attentive :=
  List.foldlRecOn (motive := State.Attentive) _ _ kept fun _ k _ _ => h _ _ k

section
variable {s : State} (kept : s.Attentive)
include kept

theorem attentive_offerAll (faults : List Offer) : (s.offerAll faults).Attentive :=
  attentive_foldl (fun _ fault k => attentive_offer k fault) faults kept

theorem attentive_raiseDeviceState (news : StateNews) : (s.raiseDeviceState news).Attentive :=
  attentive_foldl (fun _ _ k => attentive_raise k ..) allPorts kept

theorem attentive_raiseFreed (ports : BitVec 4) (i : ApIndex) : (s.raiseFreed ports i).Attentive :=
  attentive_foldl (fun _ _ k => attentive_ite (attentive_raise k ..) k) allPorts kept

/-! ### Responses and requests -/

theorem attentive_respond (p : PortId) (response : Response) : (s.respond p response).Attentive :=
  attentive_ite kept (attentive_raise (attentive_offer (attentive_setTag kept ..) _) ..)

theorem attentive_answer (p : PortId) (response : Response) : (s.answer p response).Attentive :=
  attentive_respond (attentive_popHead kept p) ..

theorem attentive_answerOffer (p : PortId) (response : Response) (fault : Offer) :
    ((s.answer p response).offer fault).Attentive := attentive_offer (attentive_answer kept ..) _

theorem attentive_fenceTest (p : PortId) : (s.fenceTest p).Attentive :=
  attentive_ite (attentive_answer kept ..) kept

theorem attentive_waitSpace (p : PortId) (tag : Tag) : (s.waitSpace p tag).Attentive := attentive_ite kept kept

theorem attentive_attempt (p : PortId) (body : List Byte) : (s.attempt p body).Attentive := by
  unfold State.attempt
  dsimp only
  split
  · exact attentive_answerOffer kept ..
  · exact attentive_ite (attentive_answerOffer kept ..) (attentive_ite kept (attentive_waitSpace kept ..))

theorem attentive_reattempt (p : PortId) : (s.reattempt p).Attentive :=
  attentive_attempt (attentive_modPort kept ..) ..

theorem attentive_setSlot (p : PortId) (k : SlotId) (new : Slot) : (s.setSlot p k new).Attentive := by
  obtain ⟨table, e⟩ := setSlot_eq s p k new
  rw [e]
  exact kept

/-! ### Holds -/

theorem attentive_reportHoldEnd (h : HoldId) (hold : Hold) (cause : HoldEnd) :
    (s.reportHoldEnd h hold cause).Attentive := by
  cases cause with
  | release | teardown => exact kept
  | broken reason => exact attentive_raise kept ..
  | expiry => exact attentive_offer (attentive_raise kept ..) _

theorem attentive_endHold (h : HoldId) (cause : HoldEnd) : (s.endHold h cause).Attentive := by
  unfold State.endHold
  split
  · exact kept
  · exact attentive_mapBanks (attentive_reportHoldEnd (attentive_setHold kept h none) ..) _

theorem attentive_endHolds (cause : HoldEnd) (which : Hold → Bool) : (s.endHolds cause which).Attentive :=
  attentive_foldl (fun _ _ k => attentive_ite (attentive_endHold k ..) k) allHolds kept

theorem attentive_judgeHold (p : PortId) (header : Header) (copy : SlotCopy) : (s.judgeHold p header copy).Attentive := by
  have refused : ∀ status code unit, (s.refuseHold p header copy status code unit).Attentive :=
    fun _ _ _ => attentive_answerOffer kept ..
  unfold State.judgeHold
  dsimp only
  refine attentive_ite (refused ..) (attentive_ite (refused ..) (attentive_ite (refused ..)
    (attentive_ite (refused ..) (attentive_ite (refused ..) ?_))))
  split
  · exact attentive_answer (attentive_setHold kept ..) ..
  · exact refused ..

theorem attentive_takeHoldOpen (p : PortId) (header : Header) : (s.takeHoldOpen p header).Attentive := by
  unfold State.takeHoldOpen
  split
  · exact attentive_answerOffer kept ..
  · exact attentive_ite (attentive_answerOffer kept ..) (attentive_judgeHold kept ..)

theorem attentive_takeHoldRelease (p : PortId) (header : Header) : (s.takeHoldRelease p header).Attentive :=
  attentive_ite (attentive_answer (attentive_endHold kept ..) ..) (attentive_answerOffer kept ..)

/-! ### FENCE and MGMT -/

theorem attentive_takeFence (p : PortId) (header : Header) : (s.takeFence p header).Attentive :=
  attentive_ite (attentive_answer kept ..) kept

theorem attentive_takeMgmt (p : PortId) (header : Header) (body : List Byte) : (s.takeMgmt p header body).Attentive :=
  attentive_ite (attentive_answerOffer kept ..) (attentive_ite (attentive_answerOffer kept ..)
    (attentive_ite (attentive_answer kept ..) kept))

/-! ### Links -/

theorem attentive_enterRetrain (p : PortId) (cause : FaultCode) : (s.enterRetrain p cause).Attentive :=
  attentive_offer (attentive_modLink kept ..) _

theorem attentive_trainEnabled : s.trainEnabled.Attentive :=
  attentive_foldl (fun _ _ k => attentive_ite (attentive_modLink k ..) k) allPorts kept

theorem attentive_processAck (p : PortId) (ack : Seq) : (s.processAck p ack).Attentive :=
  attentive_ite kept (attentive_offer kept _)

theorem attentive_replayDue (p : PortId) : (s.replayDue p).Attentive :=
  attentive_ite kept (attentive_enterRetrain kept ..)

theorem attentive_trainingTest (p : PortId) : (s.trainingTest p).Attentive := by
  unfold State.trainingTest
  dsimp only
  refine attentive_ite ?_ kept
  split
  · exact kept
  · split
    · exact attentive_ite kept (attentive_offer (attentive_modLink kept ..) _)
    · exact kept
  · exact kept

theorem attentive_acceptFreshRequest (p : PortId) : (s.acceptFreshRequest p).Attentive :=
  attentive_trainingTest (attentive_modLink kept ..) p

theorem attentive_acceptRetrainRequest (p : PortId) (ack : Seq) : (s.acceptRetrainRequest p ack).Attentive :=
  attentive_trainingTest (attentive_modLink kept ..) p

theorem attentive_retrainRequest (p : PortId) (ack : Seq) : (s.retrainRequest p ack).Attentive := by
  unfold State.retrainRequest
  split
  · exact attentive_acceptRetrainRequest (attentive_enterRetrain kept ..) ..
  · exact attentive_acceptRetrainRequest kept ..
  all_goals exact kept

theorem attentive_trainAnswer (p : PortId) (fresh : Bool) (ack : Seq) : (s.trainAnswer p fresh ack).Attentive := by
  unfold State.trainAnswer
  split
  · exact attentive_trainingTest (attentive_modLink kept ..) p
  · exact attentive_trainingTest (attentive_modLink kept ..) p
  · exact kept

theorem attentive_sendOf (p : PortId) (kind : SendKind) : (s.sendOf p kind).Attentive := by
  refine attentive_ite ?_ kept
  cases kind <;> exact kept

theorem attentive_replayFrom (p : PortId) (ack : Seq) : (s.replayFrom p ack).Attentive :=
  attentive_ite kept (attentive_replayDue (attentive_modLink kept ..) p)

theorem attentive_classify (p : PortId) (seq : Seq) (body : List Byte) : (s.classify p seq body).Attentive :=
  attentive_ite (attentive_ite kept (attentive_offer kept _)) (attentive_ite kept kept)

/-! ### Device states and the aperture table -/

theorem attentive_enterReady : s.enterReady.Attentive :=
  attentive_raiseDeviceState (attentive_trainEnabled (attentive_setDevice kept .ready)) _

theorem attentive_enterHalted (cause : Offer) : (s.enterHalted cause).Attentive :=
  attentive_raiseDeviceState (attentive_trainEnabled (attentive_offer (attentive_setDevice kept .halted) cause)) _

theorem attentive_parityFail (i : ApIndex) : (s.parityFail i).Attentive :=
  attentive_ite (attentive_offer kept _) (attentive_enterHalted kept _)

theorem attentive_parityDefer (i : ApIndex) : (s.parityDefer i).Attentive :=
  attentive_ite (attentive_offer kept _) kept

theorem attentive_finishParity : s.finishParity.Attentive :=
  attentive_foldl (s := { s with parityPending := [] }) (fun _ i k => attentive_parityFail k i) _ kept

theorem attentive_freeEntry (i : ApIndex) : (s.freeEntry i).Attentive :=
  attentive_raiseFreed (attentive_modEntry kept ..) ..

theorem attentive_lookupDrained {failed : State → ApIndex → State}
    (h : ∀ {s : State}, s.Attentive → ∀ i, (failed s i).Attentive) (i : ApIndex) :
    (s.lookupDrained failed i).Attentive :=
  attentive_ite (h kept i) (attentive_ite (attentive_freeEntry kept i) kept)

theorem attentive_settleInFlight (i : ApIndex) : (s.settleInFlight i).Attentive :=
  attentive_ite (attentive_lookupDrained (s := s.dropInFlight i) kept attentive_parityFail i) kept

end

end Sys2Proof.Machine
end

section
/-! Each event that takes effect keeps the attention flag equal to its condition: teardowns, takings, ticks, services and the
parcels that arrive (R158). -/

namespace Sys2Proof.Machine

section
variable {s : State} (kept : s.Attentive)
include kept

/-! ### Teardown and draining -/

theorem attentive_dropEntries (list : List Entry) : (s.dropEntries list).1.Attentive := by
  obtain ⟨table, e⟩ := dropEntries_eq list s
  rw [e]
  exact kept

theorem attentive_teardownQueues (p : PortId) (cause : Teardown) : (s.teardownQueues p cause).1.Attentive := by
  have emptied : (s.emptied p cause).Attentive := attentive_modLink (attentive_modPort
    (attentive_dropEntries (attentive_mapBanks (attentive_modLink kept ..) _) _) ..) ..
  rw [teardownQueues_fst]
  exact attentive_ite emptied emptied

theorem attentive_teardownRecord (p : PortId) (cause : Teardown) : (s.teardownRecord p cause).Attentive := by
  cases cause with
  | linkFailure | hostReset => exact attentive_offer kept _
  | disable | quiesce | portReset | datapathReset => exact kept

theorem attentive_teardownCore (p : PortId) (cause : Teardown) : (s.teardownCore p cause).Attentive := by
  have unbound := attentive_foldl (fun _ k h => attentive_setSlot h p k .empty) allSlots (attentive_teardownQueues kept p cause)
  have freed := attentive_endHolds unbound .teardown fun hold => decide (hold.owner = p)
  have recorded := attentive_teardownRecord (attentive_modMgmt freed (removeCommands p)) p cause
  exact attentive_foldl (fun _ i h => attentive_lookupDrained h attentive_parityDefer i) _ recorded

theorem attentive_completeDrain : s.completeDrain.Attentive := by
  unfold State.completeDrain
  split
  · exact attentive_enterReady (s := { s with active := _ }) kept
  · exact attentive_foldl (fun _ _ k => attentive_teardownCore k ..) allPorts (attentive_setDevice kept .quiescent)
  · exact kept

theorem attentive_drainTest : s.drainTest.Attentive := attentive_ite (attentive_completeDrain kept) kept

theorem attentive_drainEvent : s.drainEvent.Attentive :=
  attentive_ite (attentive_finishParity (attentive_completeDrain kept)) kept

theorem attentive_teardown (p : PortId) (cause : Teardown) : (s.teardown p cause).Attentive :=
  attentive_drainTest (attentive_teardownCore kept ..)

theorem attentive_enterDraining (reason : Drain) : (s.enterDraining reason).Attentive :=
  attentive_drainTest (attentive_raiseDeviceState (attentive_endHolds (attentive_setDevice kept (.draining reason)) ..) _)

/-! ### Takings -/

theorem attentive_takeBind (p : PortId) (header : Header) : (s.takeBind p header).Attentive := by
  have refused : ∀ status code, (s.refuseBind p header status code).Attentive := fun _ _ => attentive_answerOffer kept ..
  have filled : ∀ new, ((s.setSlot p header.slot new).answer p { tag := header.tag, status := .ok }).Attentive :=
    fun _ => attentive_answer (attentive_setSlot kept ..) ..
  exact attentive_ite (filled _) (attentive_ite (attentive_answer (attentive_parityFail kept _) ..)
    (attentive_ite (refused ..) (attentive_ite (refused ..) (attentive_ite (refused ..) (filled _)))))

theorem attentive_takeKind (p : PortId) (header : Header) (body : List Byte) : (s.takeKind p header body).Attentive := by
  unfold State.takeKind
  cases header.kind with
  | read | write | writeMasked | atomic => exact attentive_attempt kept ..
  | bind => exact attentive_takeBind kept ..
  | unbind => exact attentive_answer (attentive_setSlot kept ..) ..
  | querySlot => exact attentive_answer kept ..
  | holdOpen => exact attentive_takeHoldOpen kept ..
  | holdRelease => exact attentive_takeHoldRelease kept ..
  | fence => exact attentive_takeFence kept ..
  | mgmt => exact attentive_takeMgmt kept ..
  | invalid => exact kept

theorem attentive_takeRequest (p : PortId) (body : List Byte) : (s.takeRequest p body).Attentive := by
  unfold State.takeRequest
  dsimp only
  refine attentive_ite (attentive_raise (attentive_offer (attentive_popHead kept p) _) ..) ?_
  split
  · exact attentive_answer kept ..
  · exact attentive_ite (attentive_takeKind kept ..) (attentive_answerOffer kept ..)

theorem attentive_takeHead (p : PortId) : (s.takeHead p).Attentive := by
  unfold State.takeHead
  split
  · exact kept
  · exact attentive_ite (attentive_offer (attentive_popHead kept p) _) (attentive_takeRequest kept ..)

/-! ### The tick -/

theorem attentive_tickLink (p : PortId) : (s.tickLink p).Attentive := by
  have linked : ∀ f, (s.modLink p f).Attentive := attentive_modLink kept p
  unfold State.tickLink
  dsimp only
  split
  · exact attentive_ite kept (attentive_ite (attentive_replayDue (linked _) p) (linked _))
  · exact attentive_ite (linked _) (linked _)
  · exact attentive_ite (attentive_ite (linked _) (attentive_teardown (linked _) ..)) (linked _)
  · exact kept
  · exact kept

theorem attentive_tickCalibration : s.tickCalibration.Attentive := attentive_ite (attentive_setDevice kept _) kept

theorem attentive_setDecisions (due : Bool) : (s.setDecisions due).Attentive := kept

theorem attentive_takeTick : s.takeTick.Attentive := by
  have timed : s.timed.Attentive := attentive_mapBanks (attentive_endHolds (s := s.counted) kept ..) _
  have linked := attentive_foldl (fun _ p k => attentive_tickLink k p) allPorts timed
  have ticked : s.ticked.Attentive := attentive_finishParity (attentive_tickCalibration linked)
  rw [takeTick_eq]
  exact attentive_setDecisions ticked _

theorem attentive_fallDue : s.fallDue.Attentive := attentive_ite kept kept

/-! ### Due events and settling -/

theorem attentive_runDue (due : Due) : (s.runDue due).Attentive := by
  cases due with
  | attempt p => exact attentive_drainEvent (attentive_reattempt kept p)
  | take p => exact attentive_drainEvent (attentive_takeHead kept p)
  | drain => exact attentive_drainEvent kept
  | tick => exact attentive_takeTick kept
  | decide b => exact kept

theorem attentive_settleWhile (go : State → Due → Bool) (fuel : Nat) : (settleWhile go fuel s).Attentive :=
  settleWhile_induction (P := State.Attentive) (fun _ due _ k => attentive_runDue k due) go fuel s kept

theorem attentive_settle : s.settle.Attentive := attentive_settleWhile kept ..

theorem attentive_prompted (which : State → Due → Bool) : (s.prompted which).Attentive :=
  prompted_induction (P := State.Attentive) (fun _ due _ k => attentive_runDue k due) which s kept

theorem attentive_tickEvent : s.tickEvent.Attentive := by
  have due := attentive_fallDue (attentive_settleWhile kept beforeTick s.settleFuel)
  exact attentive_ite (attentive_takeTick due) due

theorem attentive_tickWhen (condition : State → Bool) : (s.tickWhen condition).Attentive := by
  have before := attentive_settleWhile kept beforeTick s.settleFuel
  exact attentive_ite (attentive_takeTick (attentive_fallDue before)) before

/-! ### Services -/

theorem attentive_completeEntry (b : BankId) (entry : Entry) (scrub log : Bool) :
    (s.completeEntry b entry scrub log).Attentive := by
  have served := attentive_of_faults kept (serveKept_serve s b entry scrub log).faults
  have told := attentive_offerAll served (s.serve b entry scrub log).offers
  have answered : (((s.serve b entry scrub log).state.offerAll (s.serve b entry scrub log).offers).respondServed entry
      (s.serve b entry scrub log)).Attentive := attentive_ite told (attentive_respond told ..)
  have left := attentive_fenceTest (attentive_modBank answered b (leaveQueue entry.position)) entry.port
  exact attentive_promptAttempts (attentive_ite left (attentive_settleInFlight left _))

theorem attentive_complete (b : BankId) (kind : ServiceKind) : (s.complete b kind).Attentive := by
  unfold State.complete
  split
  · exact attentive_ite (attentive_completeEntry kept ..) kept
  · exact kept

theorem attentive_completeClearing (b : BankId) : (s.completeClearing b).Attentive :=
  attentive_ite (attentive_ite (attentive_enterReady kept) kept) kept

theorem attentive_completeRefresh (b : BankId) : (s.completeRefresh b).Attentive :=
  attentive_drainTest (attentive_modBank kept ..)

/-! ### Arrivals -/

theorem attentive_hostResetPort (p : PortId) : (s.hostResetPort p).Attentive := by
  have torn := attentive_teardown kept p .hostReset
  exact attentive_finishParity (attentive_ite (attentive_acceptFreshRequest torn p) torn)

theorem attentive_freshRequest (p : PortId) : (s.freshRequest p).Attentive := by
  unfold State.freshRequest
  cases (s.link p).state with
  | training => exact attentive_acceptFreshRequest kept p
  | active | retrain => exact attentive_hostResetPort kept p
  | down | failed => exact kept

end

end Sys2Proof.Machine
end

section
/-! The management commands and every other command keep the attention flag equal to its condition; the tier 3 statement (R158). -/

namespace Sys2Proof.Machine

section
variable {s : State} (kept : s.Attentive)
include kept

/-! ### Management commands -/

/-- Of the registers, LOGSTAT and LOGCLASS have no part in the condition, and a write of ALERTMASK brings the attention test
(R158, R177). -/
theorem attentive_writeRegister {after : State} {value : Nat} {register : Register}
    (written : s.writeRegister value register = some after) : after.Attentive := by
  cases register <;> cases written
  case alertMask => exact attentive_attentionTest _
  all_goals exact kept

theorem attentive_doRegRead (block : List Byte) : (s.doRegRead block).1.Attentive := by
  unfold State.doRegRead
  split <;> exact kept

theorem attentive_doRegWrite (block : List Byte) : (s.doRegWrite block).1.Attentive := by
  unfold State.doRegWrite
  split
  · exact kept
  · split
    · next written => exact attentive_writeRegister kept written
    · exact kept

theorem attentive_doCreate (block : List Byte) : (s.doCreate block).1.Attentive := by
  unfold State.doCreate
  split
  · exact kept
  · split
    · exact attentive_parityFail kept _
    · split
      · exact kept
      · split <;> exact kept

theorem attentive_raiseStale (p : PortId) (slots : BitVec 8) : (s.raiseStale p slots).Attentive :=
  attentive_ite kept (attentive_raise kept ..)

theorem attentive_raiseStaled (before : State) (which : PortId → SlotCopy → Bool) : (s.raiseStaled before which).Attentive :=
  attentive_foldl (fun _ _ k => attentive_raiseStale k ..) allPorts kept

theorem attentive_modifyEntry (i : ApIndex) (descriptor : Descriptor) : (s.modifyEntry i descriptor).Attentive := by
  have walked : ∀ change, ((s.modEntry i (describe descriptor)).walkSlots change).Attentive := fun _ =>
    attentive_foldl (fun _ _ k => attentive_modPort k ..) allPorts (attentive_modEntry kept ..)
  exact attentive_raiseStaled (walked _) ..

theorem attentive_doModify (block : List Byte) : (s.doModify block).1.Attentive := by
  unfold State.doModify
  split
  · exact kept
  · split
    · exact attentive_parityFail kept _
    · split
      · exact kept
      · split
        · exact kept
        · exact attentive_modifyEntry kept ..

end

/-- LOG_CLEAR ends with the attention test (R157, R158). -/
theorem attentive_doLogClear (s : State) : s.doLogClear.1.Attentive := by
  unfold State.doLogClear
  dsimp only
  exact attentive_attentionTest _

theorem attentive_retireWalk (i : ApIndex) : ∀ (list : List (PortId × SlotId)) {s : State}, s.Attentive →
    (s.retireWalk i list).1.Attentive
  | [], _, kept => kept
  | (p, k) :: rest, s, kept => by
    unfold State.retireWalk
    split
    · split
      · exact kept
      · exact attentive_retireWalk i rest (attentive_modPort kept p _)
    · exact attentive_retireWalk i rest kept

section
variable {s : State} (kept : s.Attentive)
include kept

theorem attentive_finishRetire (before : State) (i : ApIndex) : (s.finishRetire before i).Attentive := by
  have broken := attentive_endHolds (attentive_raiseStaled kept before fun _ copy => decide (handleIndex copy.handle = i))
    (.broken .retire) fun hold => decide (hold.aperture = i ∧ hold.generation = (before.entry i).generation)
  unfold State.finishRetire
  dsimp only
  exact attentive_ite (attentive_freeEntry broken i) broken

theorem attentive_doRetire (block : List Byte) : (s.doRetire block).1.Attentive := by
  unfold State.doRetire
  split
  · exact kept
  · next i _ =>
    split
    · exact attentive_parityFail kept _
    · split
      · exact kept
      · have retiring := attentive_modEntry kept i fun entry => { entry with state := .retiring }
        have walked := attentive_retireWalk i walkOrder retiring
        split
        · next e => rw [e] at walked; exact attentive_parityFail walked i
        · next e => rw [e] at walked; dsimp only; exact attentive_finishRetire walked s i

theorem attentive_doRead (block : List Byte) : (s.doRead block).1.Attentive := by
  unfold State.doRead
  split
  · exact kept
  · exact attentive_ite (attentive_parityFail kept _) kept

theorem attentive_doLogPop : s.doLogPop.1.Attentive := by
  unfold State.doLogPop
  split
  · exact kept
  · dsimp only
    exact attentive_attentionTest _

theorem attentive_doLogPeek (block : List Byte) : (s.doLogPeek block).1.Attentive := by
  unfold State.doLogPeek
  split <;> exact kept

theorem attentive_configure (p : PortId) (new : PortConfig) : (s.configure p new).Attentive := by
  have staled : (s.stalePortSlots p fun _ => true).Attentive := attentive_raiseStale (attentive_modPort kept ..) ..
  have withdrawn : (s.withdraw p new).Attentive := attentive_ite (attentive_teardown kept ..) (attentive_ite staled kept)
  have replaced := attentive_modPort withdrawn p fun port => { port with config := new }
  exact attentive_ite (attentive_modLink replaced ..) replaced

theorem attentive_doPortConfig (source : Source) (block : List Byte) : (s.doPortConfig source block).1.Attentive := by
  unfold State.doPortConfig
  split
  · exact kept
  · split
    · exact kept
    · exact attentive_configure kept ..

theorem attentive_doPortReset (source : Source) (block : List Byte) : (s.doPortReset source block).1.Attentive := by
  unfold State.doPortReset
  split
  · exact kept
  · next p _ =>
    have cleared := attentive_modLink (attentive_teardown kept p .portReset) p clearCounters
    split
    · exact kept
    · exact attentive_ite (attentive_modLink cleared ..) cleared

theorem attentive_doProfileStage (block : List Byte) : (s.doProfileStage block).1.Attentive := by
  unfold State.doProfileStage
  split <;> exact kept

theorem attentive_commit : s.commit.Attentive := by
  unfold State.commit
  cases s.device with
  | ready => exact attentive_enterDraining kept _
  | unconfigured | initializing | quiescent | reset | calibrating | draining | halted => exact kept

theorem attentive_doProfileCommit : s.doProfileCommit.1.Attentive := by
  unfold State.doProfileCommit
  split
  · exact kept
  · exact attentive_commit kept

theorem attentive_doQuiesce : s.doQuiesce.1.Attentive := by
  unfold State.doQuiesce
  dsimp only
  exact attentive_enterDraining kept _

theorem attentive_doResume : s.doResume.1.Attentive := attentive_ite kept (attentive_enterReady kept)

theorem attentive_forceFree (i : ApIndex) : (s.forceFree i).Attentive :=
  attentive_raiseFreed (attentive_mapBanks (attentive_modEntry kept ..) _) ..

theorem attentive_settleDrain : s.settleDrain.Attentive := by
  unfold State.settleDrain
  split
  · exact attentive_enterReady (s := { s with active := _ }) kept
  · exact attentive_enterReady kept
  · exact kept

theorem attentive_doDatapathReset : s.doDatapathReset.1.Attentive := by
  have torn : s.resetTorn.Attentive := attentive_foldl (fun _ p k => attentive_teardownCore k p _) allPorts kept
  have freed : s.resetFreed.Attentive := by
    unfold State.resetFreed
    exact attentive_foldl (fun _ i k => attentive_forceFree k i) _ torn
  rw [doDatapathReset_eq]
  exact attentive_settleDrain (attentive_modMgmt freed _)

theorem attentive_doHoldBreak (block : List Byte) : (s.doHoldBreak block).1.Attentive := by
  unfold State.doHoldBreak
  split
  · exact attentive_endHold kept ..
  · exact kept

theorem attentive_doInjectEcc (block : List Byte) : (s.doInjectEcc block).1.Attentive := by
  unfold State.doInjectEcc
  split <;> exact kept

theorem attentive_doHalt (source : Source) : (s.doHalt source).1.Attentive := by
  unfold State.doHalt
  dsimp only
  exact attentive_enterHalted kept _

/-- The effect of a permitted command (R170). -/
theorem attentive_commandEffect (source : Source) (block : List Byte) (command : Command) :
    (s.commandEffect source block command).1.Attentive := by
  cases command with
  | regRead => exact attentive_doRegRead kept block
  | regWrite => exact attentive_doRegWrite kept block
  | apertureCreate => exact attentive_doCreate kept block
  | apertureModify => exact attentive_doModify kept block
  | apertureRetire => exact attentive_doRetire kept block
  | apertureRead => exact attentive_doRead kept block
  | portConfig => exact attentive_doPortConfig kept source block
  | portReset => exact attentive_doPortReset kept source block
  | logPop => exact attentive_doLogPop kept
  | logPeek => exact attentive_doLogPeek kept block
  | logClear => exact attentive_doLogClear s
  | profileStage => exact attentive_doProfileStage kept block
  | profileCommit => exact attentive_doProfileCommit kept
  | quiesce => exact attentive_doQuiesce kept
  | resume => exact attentive_doResume kept
  | datapathReset => exact attentive_doDatapathReset kept
  | holdBreak => exact attentive_doHoldBreak kept block
  | injectEcc => exact attentive_doInjectEcc kept block
  | halt => exact attentive_doHalt kept source

theorem attentive_runBlock (source : Source) (block : List Byte) : (s.runBlock source block).1.Attentive := by
  unfold State.runBlock
  split
  · exact kept
  · split
    · exact attentive_commandEffect kept ..
    · exact kept

theorem attentive_recordOutcome (source : Source) (block : List Byte) (outcome : Outcome) :
    (s.recordOutcome source block outcome).Attentive := by
  unfold State.recordOutcome
  split
  · exact attentive_offer kept _
  · exact kept

theorem attentive_deliver (source : Source) (block : List Byte) (outcome : Outcome) :
    (s.deliver source block outcome).Attentive := by
  cases source with
  | spi => exact kept
  | port p tag => exact attentive_ite (attentive_fenceTest (attentive_respond kept ..) p) kept

theorem attentive_execute (command : QueuedCommand) : (s.execute command).Attentive := by
  have run : (s.popped.runBlock command.source command.block).1.Attentive :=
    attentive_runBlock (attentive_modMgmt kept popCommand) ..
  exact attentive_promptAttempts (attentive_deliver (attentive_recordOutcome (attentive_finishParity run) ..) ..)

theorem attentive_execution (which : List Byte → Bool) : (s.execution which).Attentive := by
  have settled := attentive_settle kept
  unfold State.execution
  dsimp only
  split
  · exact attentive_ite (attentive_execute settled _) settled
  · exact settled

theorem attentive_answerTag (p : PortId) (tag : Tag) : (s.answerTag p tag).Attentive := by
  unfold State.answerTag
  split
  · split
    · exact attentive_completeEntry kept ..
    · exact kept
  · split
    · exact attentive_ite (attentive_execute kept _) kept
    · exact kept

theorem attentive_answerFence (p : PortId) : (s.answerFence p).Attentive := by
  refine attentive_ite (attentive_fenceTest kept p) ?_
  split
  · exact attentive_answerTag kept ..
  · exact kept

theorem attentive_submit (block : List Byte) : (s.submit block).Attentive :=
  attentive_ite kept (attentive_ite (attentive_offer (attentive_modMgmt kept _) _) (attentive_ite kept kept))

/-! ### Every command -/

theorem exec_attentive (i : Instr) : ∃ t, exec i s = .next t ∧ t.Attentive := by
  have settled := attentive_settle kept
  cases i
  case resetNAssert => exact ⟨_, rfl, rfl⟩
  case resetNRelease => exact ⟨_, rfl, attentive_ite kept kept⟩
  case tick => exact ⟨_, rfl, attentive_tickEvent kept⟩
  case calibrationEnd | refreshObligation | holdExpiry | ackTimeout | trainingTimeout => exact ⟨_, rfl, attentive_tickWhen kept _⟩
  case memoryDisturbance | spiResult => exact ⟨_, rfl, settled⟩
  case tableDisturbance | malformedParcel | spiStatus => exact ⟨_, rfl, attentive_ite settled settled⟩
  case receiveData port _ ack _ =>
    have acked := attentive_processAck settled port ack
    exact ⟨_, rfl, attentive_ite settled (attentive_ite (attentive_classify acked ..) settled)⟩
  case receiveAck => exact ⟨_, rfl, attentive_ite (attentive_processAck settled ..) settled⟩
  case receiveNak =>
    exact ⟨_, rfl, attentive_ite (attentive_ite (attentive_replayFrom settled ..) (attentive_offer settled _)) settled⟩
  case receiveTrainReq | hostReset => exact ⟨_, rfl, attentive_freshRequest settled _⟩
  case receiveRetrainReq => exact ⟨_, rfl, attentive_retrainRequest settled ..⟩
  case receiveTrainAck => exact ⟨_, rfl, attentive_trainAnswer settled ..⟩
  case sendTrainAck | sendTrainReq | sendNak | sendRetransmit | sendNewData | sendAck =>
    exact ⟨_, rfl, attentive_sendOf settled ..⟩
  case shortRequest | read | write | writeMasked | atomic | bind | unbind | querySlot | holdOpen | holdRelease | fence |
      mgmt | invalidRequestKind | admissionReattempt | bankDecision | drainComplete => exact ⟨_, rfl, attentive_prompted kept _⟩
  case fenceAnswer => exact ⟨_, rfl, attentive_answerFence settled _⟩
  case readService | writeService | writeMaskedService | atomicService => exact ⟨_, rfl, attentive_complete settled ..⟩
  case clearingService => exact ⟨_, rfl, attentive_ite (attentive_completeClearing settled _) settled⟩
  case refreshComplete =>
    exact ⟨_, rfl, attentive_ite (attentive_finishParity (attentive_completeRefresh settled _)) settled⟩
  case spiSubmit block =>
    have before : s.settleSubmit.Attentive := attentive_settleWhile kept ..
    exact ⟨_, rfl, attentive_ite before (attentive_submit before block)⟩
  case spiBadOpcode =>
    have offered := attentive_offer (attentive_modMgmt settled fun m => { m with spiError := true }) { code := .spiBadOpcode }
    exact ⟨_, rfl, attentive_ite settled (attentive_ite settled (attentive_modMgmt offered _))⟩
  all_goals exact ⟨_, rfl, attentive_execution kept _⟩

end

/-- Settles O57: an idle step leaves the state, another runs a command. -/
theorem stepKeepsAttention : Obligations.StepKeepsAttention := by
  intro s t kept run
  cases queue : s.pending with
  | nil =>
    rw [step_of_pending_nil queue] at run
    cases run
    exact kept
  | cons i rest =>
    rw [step_of_pending_cons queue] at run
    obtain ⟨after, e, attentive⟩ := exec_attentive (s := { s with pending := rest }) kept i
    cases e.symm.trans run
    exact attentive

end Sys2Proof.Machine
end

section
/-! LOG_POP, LOG_PEEK and LOG_CLEAR, and the block of a fault record (R152, R153, R156, R157). -/

namespace Sys2Proof.Machine

section
variable {s : State}

theorem doLogPop_of_empty (empty : s.faults.log = []) : s.doLogPop = (s, .rejected .logEmpty) := by
  rw [State.doLogPop, empty]

theorem doLogPop_of_cons {oldest : FaultRecord} {rest : List FaultRecord} (log : s.faults.log = oldest :: rest) :
    s.doLogPop = ((s.modFaults fun u => { u with log := rest, episode := false }).attentionTest,
      .ok (recordBlock oldest)) := by
  rw [State.doLogPop, log]

/-- LOG_PEEK answers from the log and changes nothing (R157). -/
theorem doLogPeek_eq (block : List Byte) : s.doLogPeek block = (s,
    match s.faults.log[(block.getD 4 0).toNat]? with
      | some record => .ok (recordBlock record)
      | none => .rejected .logEmpty) := by
  unfold State.doLogPeek byteAt
  cases s.faults.log[(block.getD 4 0).toNat]? <;> rfl

end

/-- Settles O48: the effect of each command on the log, the bytes of a record, and the table of codes by cases. -/
theorem logCommands : Obligations.LogCommands := by
  refine ⟨fun s command => ⟨fun pops => ?_, fun peeks => ?_, fun clears => exec_of_executes rfl clears rfl⟩, fun record => ?_,
    fun code notNow logEmpty => ?_⟩
  · cases log : s.faults.log with
    | nil => exact exec_of_executes rfl pops (doLogPop_of_empty (s := s.popped) log)
    | cons oldest rest => exact exec_of_executes rfl pops (doLogPop_of_cons (s := s.popped) log)
  · exact exec_of_executes rfl peeks (doLogPeek_eq (s := s.popped) command.block)
  · simp only [recordBlock, leBytes, Nat.div_div_eq_div_mul, Nat.mul_comm, List.cons_append, List.nil_append,
      Nat.reducePow, Nat.reduceMul]
  · cases code
    case rejected detail =>
      cases detail
      case notNow => exact absurd rfl notNow
      case logEmpty => exact absurd rfl logEmpty
      all_goals decide
    all_goals decide

end Sys2Proof.Machine
end

section
/-! Registers: the words of Tables 11-1 to 11-4, REG_READ and REG_WRITE (R176, R177). -/

namespace Sys2Proof.Machine

/-! ### Addresses (Table 11-1) -/

theorem registerAt_portCfg : ∀ p : PortId, registerAt (0x08 + p.val) = some (.portCfg p) := by decide

theorem registerAt_portStat0 : ∀ p : PortId, registerAt (0x10 + 2 * p.val) = some (.portStat0 p) := by decide

theorem registerAt_portStat1 : ∀ p : PortId, registerAt (0x11 + 2 * p.val) = some (.portStat1 p) := by decide

theorem registerAt_bankStat : ∀ b : BankId, registerAt (0x20 + b.val) = some (.bankStat b) := by decide

/-- The gaps of the address map. -/
theorem registerAt_eq_none {address : Nat}
    (gap : 0x05 ≤ address ∧ address ≤ 0x07 ∨ 0x0C ≤ address ∧ address ≤ 0x0F ∨ 0x18 ≤ address ∧ address ≤ 0x1F ∨
      0x28 ≤ address ∧ address ≤ 0x2F ∨ 0x37 ≤ address) : registerAt address = none := by
  unfold registerAt
  iterate 15 rw [if_neg (by omega)]

/-! ### Words (Tables 11-2 to 11-4) -/

/-- A flag at a bit of a word. -/
theorem toNat_mul_eq_ite (flag : Bool) (weight : Nat) : flag.toNat * weight = if flag then weight else 0 := by
  cases flag <;> simp

/-- DSTATE: the device state with the drain reason (Table 11-2). -/
theorem deviceWord_eq (device : DevState) : deviceCode device + drainCode device * 2 ^ 4 =
    match device with
    | .reset => 0
    | .calibrating => 1
    | .unconfigured => 2
    | .initializing => 3
    | .ready => 4
    | .draining (.profile _) => 5 + 1 * 2 ^ 4
    | .draining .quiesce => 5 + 2 * 2 ^ 4
    | .quiescent => 6
    | .halted => 7 := by
  cases device with
  | draining reason => cases reason <;> rfl
  | _ => rfl

theorem profileWord_eq (profile : Profile) : profileWord profile =
    profile.holdCeiling + profile.refreshInterval * 2 ^ 16 + profile.postponeLimit * 2 ^ 22 +
      (if profile.scrubOnCorrect then 2 ^ 25 else 0) + (if profile.logCorrected then 2 ^ 26 else 0) +
      (if profile.bankMap = .linear then 2 ^ 27 else 0) := by
  simp only [profileWord, toNat_mul_eq_ite, decide_eq_true_eq]

theorem configWord_eq (config : PortConfig) : configWord config =
    (if config.enabled then 1 else 0) + config.tier.val * 2 + (if config.mgmtCapable then 2 ^ 3 else 0) +
      (if config.maskAttention then 2 ^ 4 else 0) + (if config.maskFreed then 2 ^ 5 else 0) := by
  simp only [configWord, toNat_mul_eq_ite, ← toNat_mul_eq_ite config.enabled 1, Nat.mul_one]

/-- The places of a vector that meet a condition are as many as the elements that do. -/
theorem length_filter_toList {α : Type} {n : Nat} (v : Vector α n) (which : α → Bool) :
    (v.toList.filter which).length = ((List.finRange n).filter fun i => which v[i]).length := by
  have places : v.toList = (List.finRange n).map fun i => v[i] := List.ext_getElem (by simp) (by simp)
  rw [places, List.filter_map, List.length_map]
  rfl

/-- The OUTSTANDING tags of a port, counted by tag (Table 11-3). -/
theorem outstanding_eq (s : State) (p : PortId) :
    outstanding (s.port p) = ((List.finRange 32).filter fun tag => (s.tagHolder p tag).isSome).length :=
  length_filter_toList ..

/-- PORTSTATn word 0 (Table 11-3). -/
theorem portWord0_eq (s : State) (p : PortId) : portWord0 (s.port p) =
    (match (s.link p).state with
      | .down => 0
      | .training => 1
      | .active => 2
      | .retrain => 3
      | .failed => 4) + ((List.finRange 32).filter fun tag => (s.tagHolder p tag).isSome).length * 2 ^ 3 +
      (s.link p).replay.length * 2 ^ 9 + (s.link p).retrains.toNat * 2 ^ 16 := by
  rw [portWord0, outstanding_eq, State.link]
  cases (s.port p).link.state <;> rfl

/-- The ACTIVE holds, counted by id (Table 11-4). -/
theorem activeHolds_eq (s : State) : s.activeHolds = (allHolds.filter fun h => (s.hold h).isSome).length :=
  length_filter_toList ..

theorem armWord_eq (m : Mgmt) : armWord m =
    (match m.arm with
      | none => 0
      | some (unit, .correctable) => unit.toNat + 1 * 2 ^ 24
      | some (unit, .uncorrectable) => unit.toNat + 2 * 2 ^ 24) + (if m.consumed then 2 ^ 31 else 0) := by
  rw [armWord, toNat_mul_eq_ite]
  cases m.arm with
  | none => rfl
  | some armed =>
    obtain ⟨unit, kind⟩ := armed
    cases kind <;> rfl

/-! ### REG_READ and REG_WRITE -/

/-- REG_READ changes nothing and answers the word, or BAD_REGISTER (R176). -/
theorem doRegRead_eq (s : State) (block : List Byte) : s.doRegRead block = (s,
    match registerAt (numberAt block 4 2) with
      | some register => .ok (leBytes 4 (s.readRegister register))
      | none => .rejected .badRegister) := by
  unfold State.doRegRead addressArgument
  cases registerAt (numberAt block 4 2) <;> rfl

/-- The RO registers (Table 11-1). -/
def readOnly : Register → Bool
  | .devid | .dstate | .timebase | .profActive | .profStaged | .portCfg _ | .holdStat | .injStat | .mgmtStat => true
  | .portStat0 _ | .portStat1 _ | .bankStat _ | .logStat0 | .logStat1 | .logClass | .alertMask => false

theorem writeRegister_of_readOnly {register : Register} (h : readOnly register = true) (s : State) (value : Nat) :
    s.writeRegister value register = none := by
  cases register with
  | devid | dstate | timebase | profActive | profStaged | portCfg | holdStat | injStat | mgmtStat => rfl
  | portStat0 | portStat1 | bankStat | logStat0 | logStat1 | logClass | alertMask => cases h

/-- The addresses of the RO registers (Table 11-1). -/
theorem readOnly_of_registerAt {address : Nat} {register : Register}
    (range : address ≤ 0x0B ∨ address = 0x30 ∨ address = 0x35 ∨ address = 0x36) (named : registerAt address = some register) :
    readOnly register = true := by
  have low : ∀ a < 0x0C, (registerAt a).all readOnly = true := by decide
  have all : (registerAt address).all readOnly = true := by
    rcases range with range | rfl | rfl | rfl
    · exact low address (by omega)
    · rfl
    · rfl
    · rfl
  rwa [named] at all

section
variable {s t : State} {block : List Byte} {register : Register}

theorem doRegWrite_of_none (named : registerAt (numberAt block 4 2) = none) :
    s.doRegWrite block = (s, .rejected .badRegister) := by
  rw [State.doRegWrite, addressArgument, named]

theorem doRegWrite_of_readOnly (named : registerAt (numberAt block 4 2) = some register) (kept : readOnly register = true) :
    s.doRegWrite block = (s, .rejected .readOnly) := by
  rw [State.doRegWrite, addressArgument, named]
  dsimp only
  rw [writeRegister_of_readOnly kept]

theorem doRegWrite_of_write (named : registerAt (numberAt block 4 2) = some register)
    (write : s.writeRegister (numberAt block 8 4) register = some t) : s.doRegWrite block = (t, .ok []) := by
  rw [State.doRegWrite, addressArgument, named]
  dsimp only
  rw [write]

end

/-- A REG_WRITE to a register of a group is one that the row of the group executes. -/
theorem writesTo_of_registerAt {block : List Byte} {register : Register} {group : Register → Bool}
    (decoded : blockCommand block = some .regWrite) (named : registerAt (numberAt block 4 2) = some register)
    (member : group register = true) : writesTo group block = true := by
  rw [writesTo, decide_eq_true decoded, addressArgument, named]
  exact member

/-- An accepted REG_WRITE is the write action and the end of the execution, in its own row and in that of the register (R177). -/
theorem exec_of_write {s t : State} {command : QueuedCommand} {register : Register} {group : Register → Bool} {row : Instr}
    (own : exec row s = .next (s.execution (writesTo group))) (h : s.Executes command .regWrite)
    (named : registerAt (numberAt command.block 4 2) = some register) (member : group register = true)
    (write : s.popped.writeRegister (numberAt command.block 8 4) register = some t) :
    ∀ i ∈ [Instr.regWrite, row], exec i s = .next (t.concluded command (.ok [])) := by
  have effect : s.popped.commandEffect command.source command.block .regWrite = (t, .ok []) := doRegWrite_of_write named write
  have run := execution_of_heads h.1 (writesTo_of_registerAt h.2.1 named member)
  rw [execute_of_executes h, effect] at run
  refine List.forall_mem_cons.2 ⟨exec_of_executes rfl h effect, List.forall_mem_singleton.2 ?_⟩
  rw [own, run]

/-- A REG_WRITE that clears the counters of a link (R177). -/
theorem exec_of_portStat {s : State} {command : QueuedCommand} {p : PortId} (h : s.Executes command .regWrite)
    (address : numberAt command.block 4 2 = 0x10 + 2 * p.val ∨ numberAt command.block 4 2 = 0x11 + 2 * p.val) :
    ∀ i ∈ [Instr.regWrite, .portstatWrite],
      exec i s = .next ((s.popped.modLink p clearCounters).concluded command (.ok [])) := by
  rcases address with address | address
  · exact exec_of_write rfl h (by rw [address, registerAt_portStat0]) rfl rfl
  · exact exec_of_write rfl h (by rw [address, registerAt_portStat1]) rfl rfl

/-- Settles O42: the words by address, then each command by the register that its block names. -/
theorem registerCommands : Obligations.RegisterCommands := by
  refine ⟨fun s => ?_, fun s command => ⟨fun asks => ?_, fun writes => ⟨fun unnamed => ?_, fun range named => ?_,
    fun p address i row => ?_, fun b address => ?_, fun address => ?_, fun address => ?_, fun address => ?_⟩⟩⟩
  · have reads {address : Nat} {register : Register} (named : registerAt address = some register) :
        (registerAt address).map s.readRegister = some (s.readRegister register) := congrArg (Option.map s.readRegister) named
    exact ⟨rfl, congrArg some (deviceWord_eq s.device), rfl, congrArg some (profileWord_eq s.active),
      congrArg some (profileWord_eq s.staged),
      fun p => ⟨(reads (registerAt_portCfg p)).trans (congrArg some (configWord_eq _)),
        (reads (registerAt_portStat0 p)).trans (congrArg some (portWord0_eq s p)), reads (registerAt_portStat1 p)⟩,
      fun b => reads (registerAt_bankStat b), congrArg some (activeHolds_eq s), rfl, rfl, rfl, rfl,
      congrArg some (armWord_eq s.mgmt), rfl, fun _ => registerAt_eq_none⟩
  · exact exec_of_executes rfl asks (doRegRead_eq ..)
  · exact exec_of_executes rfl writes (doRegWrite_of_none unnamed)
  · obtain ⟨register, found⟩ := Option.ne_none_iff_exists'.1 named
    exact exec_of_executes rfl writes (doRegWrite_of_readOnly found (readOnly_of_registerAt range found))
  · exact ⟨_, exec_of_portStat writes address i row, onlyLink_modLink .., State.link_modLink_same ..⟩
  · exact exec_of_write rfl writes (by rw [address, registerAt_bankStat]) rfl rfl
  · rcases address with address | address
    · exact exec_of_write (register := .logStat0) rfl writes (by rw [address]; rfl) rfl rfl
    · exact exec_of_write (register := .logStat1) rfl writes (by rw [address]; rfl) rfl rfl
  · exact exec_of_write (register := .logClass) rfl writes (by rw [address]; rfl) rfl rfl
  · exact exec_of_write (register := .alertMask) rfl writes (by rw [address]; rfl) rfl rfl

end Sys2Proof.Machine
end

section
/-! APERTURE_CREATE, APERTURE_READ and the index check of the aperture commands (R74, R80, R84 to R86, R172). -/

namespace Sys2Proof.Machine

/-! ### The snapshot and the handle -/

theorem parityByte_eq (bad : Bool) : BitVec.ofNat 8 bad.toNat = if bad then 1 else 0 := by
  cases bad <;> rfl

/-- The bytes of the snapshot (R172). -/
theorem entrySnapshot_eq (entry : ApEntry) : entrySnapshot entry =
    [BitVec.ofNat 8 (entryCode entry.state), BitVec.ofNat 8 entry.generation.toNat, granularityByte entry.granularity,
      rightsByte entry.rights, BitVec.ofNat 8 entry.accessTier.val, BitVec.ofNat 8 entry.portMask.toNat,
      BitVec.ofNat 8 entry.parityBad.toNat, BitVec.ofNat 8 entry.bindings, BitVec.ofNat 8 entry.inFlight,
      BitVec.ofNat 8 entry.base.toNat, BitVec.ofNat 8 (entry.base.toNat / 2 ^ 8), BitVec.ofNat 8 (entry.base.toNat / 2 ^ 16),
      BitVec.ofNat 8 entry.limit.toNat, BitVec.ofNat 8 (entry.limit.toNat / 2 ^ 8),
      BitVec.ofNat 8 (entry.limit.toNat / 2 ^ 16), 0] := by
  simp only [entrySnapshot, leBytes, Nat.div_div_eq_div_mul, List.cons_append, List.nil_append, Nat.reducePow, Nat.reduceMul]

/-- The handle of an index and a generation for tier 0, whose fields fill 16 bits (Table 4-2). -/
theorem toNat_handleOf_zero (i : ApIndex) (generation : Generation) :
    (handleOf i generation 0).toNat = i.val * 64 + generation.toNat * 4 := by
  have index := i.isLt
  have narrow := generation.isLt
  exact Nat.mod_eq_of_lt (by simp only [Fin.val_zero]; omega)

theorem indexArgument_of_out {block : List Byte} (out : numberAt block 4 2 = 0 ∨ 1023 < numberAt block 4 2) :
    indexArgument block = none :=
  if_neg (by omega)

/-! ### The rows -/

section
variable {s : State} {block : List Byte} {i : ApIndex}

theorem parityFail_of_awake (awake : s.device ≠ .halted) : s.parityFail i = s.enterHalted (tableParity i) := if_neg awake

theorem doCreate_of_bad (argument : indexArgument block = some i) (bad : (s.entry i).parityBad = true)
    (awake : s.device ≠ .halted) : s.doCreate block = (s.enterHalted (tableParity i), .rejected .wrongState) := by
  unfold State.doCreate
  rw [argument]
  dsimp only
  rw [if_pos bad, parityFail_of_awake awake]

theorem doCreate_of_not_free (argument : indexArgument block = some i) (good : (s.entry i).parityBad = false)
    (other : (s.entry i).state ≠ .free) : s.doCreate block = (s, .rejected .notFree) := by
  unfold State.doCreate
  rw [argument]
  dsimp only
  rw [good, if_pos other]
  rfl

theorem doCreate_of_invalid (argument : indexArgument block = some i) (good : (s.entry i).parityBad = false)
    (free : (s.entry i).state = .free) (invalid : descriptorOf block = none) :
    s.doCreate block = (s, .rejected .badDescriptor) := by
  unfold State.doCreate
  rw [argument]
  dsimp only
  rw [good, free, invalid]
  rfl

/-- The entry becomes LIVE with the supplied fields, and the result is its handle for tier 0 (R74). -/
theorem doCreate_of_valid {d : Descriptor} (argument : indexArgument block = some i) (good : (s.entry i).parityBad = false)
    (free : (s.entry i).state = .free) (valid : descriptorOf block = some d) : s.doCreate block =
      (s.modEntry i (describe d), .ok (leBytes 2 (i.val * 64 + (s.entry i).generation.toNat * 4))) := by
  unfold State.doCreate
  rw [argument]
  dsimp only
  rw [good, free, valid, toNat_handleOf_zero]
  rfl

theorem doRead_of_good (argument : indexArgument block = some i) (good : (s.entry i).parityBad = false) :
    s.doRead block = (s, .ok (entrySnapshot (s.entry i))) := by
  rw [State.doRead, argument]
  dsimp only
  rw [good]
  rfl

theorem doRead_of_bad (argument : indexArgument block = some i) (bad : (s.entry i).parityBad = true) :
    s.doRead block = (s.parityFail i, .ok (entrySnapshot (s.entry i))) := by
  rw [State.doRead, argument]
  dsimp only
  rw [if_pos bad]

/-- A command that is not permitted in HALTED executes outside it (R86, R171). -/
theorem awake_of_executes {command : QueuedCommand} {which : Command} (h : s.Executes command which)
    (barred : permitted which .halted = false) : s.device ≠ .halted := by
  obtain ⟨-, -, allowed⟩ := h
  intro halted
  rw [halted, barred] at allowed
  cases allowed

/-- Every aperture command checks its index first (R172). -/
theorem commandEffect_of_badIndex {which : Command} (source : Source) (aperture : isApertureCommand which = true)
    (argument : indexArgument block = none) : s.commandEffect source block which = (s, .rejected .badIndex) := by
  cases which
  case apertureCreate => change s.doCreate block = _; rw [State.doCreate, argument]
  case apertureModify => change s.doModify block = _; rw [State.doModify, argument]
  case apertureRetire => change s.doRetire block = _; rw [State.doRetire, argument]
  case apertureRead => change s.doRead block = _; rw [State.doRead, argument]
  all_goals cases aperture

/-- The row of an aperture command whose index names no entry (R172). -/
theorem exec_of_badIndex {row : Instr} {command : QueuedCommand} {which : Command}
    (own : exec row s = .next (s.execution (names which))) (aperture : isApertureCommand which = true)
    (out : numberAt command.block 4 2 = 0 ∨ 1023 < numberAt command.block 4 2) (h : s.Executes command which) :
    exec row s = .next (s.popped.concluded command (.rejected .badIndex)) :=
  exec_of_executes own h (commandEffect_of_badIndex command.source aperture (indexArgument_of_out out))

end

/-- Settles O44: the snapshot byte by byte, then the commands where the lookup passes, where it fails, and where the index names
no entry. -/
theorem apertureCreateReadAndBadIndex : Obligations.ApertureCreateReadAndBadIndex := by
  refine ⟨fun entry => ?_, fun s command i named nonzero good => ?_, fun s command i named nonzero bad => ?_,
    fun s command out => ?_⟩
  · rw [entrySnapshot_eq, granularityByte_eq, parityByte_eq]
    cases entry.state <;> rfl
  · have argument := indexArgument_of_eq named nonzero
    refine ⟨fun creates => ?_, fun reads => ?_⟩
    · split
      · next other => exact exec_of_executes rfl creates (doCreate_of_not_free (s := s.popped) argument good other)
      · next free =>
        have free := not_not.1 free
        cases fields : descriptorOf command.block with
        | none => exact exec_of_executes rfl creates (doCreate_of_invalid (s := s.popped) argument good free fields)
        | some d => exact exec_of_executes rfl creates (doCreate_of_valid (s := s.popped) argument good free fields)
    · exact exec_of_executes rfl reads (doRead_of_good (s := s.popped) argument good)
  · have argument := indexArgument_of_eq named nonzero
    refine ⟨fun creates => ?_, fun reads => ?_⟩
    · exact exec_of_executes rfl creates (doCreate_of_bad (s := s.popped) argument bad
        (awake_of_executes (s := s) creates rfl))
    · exact exec_of_executes rfl reads (doRead_of_bad (s := s.popped) argument bad)
  · exact ⟨exec_of_badIndex rfl rfl out, exec_of_badIndex rfl rfl out, exec_of_badIndex rfl rfl out,
      exec_of_badIndex rfl rfl out⟩

end Sys2Proof.Machine
end
